-- ==== Sys2Proof/Word.lean ====
section
/-! DEFINITION. The word types of the KQ-40 and the arithmetic of its millisecond clock
(00_scope.md, Conventions: Time). Everything a test could show wrong is elsewhere. -/

namespace Sys2Proof

/-- One byte, of memory or of the tender line. -/
abbrev Byte := BitVec 8

/-- A register of the register window (R170). -/
abbrev Word32 := BitVec 32

/-- The millisecond clock counts in 32 bits and wraps (00_scope.md, Conventions: Time). -/
def clockModulus : Nat := 4294967296

/-- A moment of the clock, brought into its 32 bits. -/
def clockAt (t : Nat) : Nat := t % clockModulus

/-- A moment `t` has been reached when the clock less `t`, modulo 2^32, lies from 0 to 2,147,483,647
(00_scope.md, Conventions: Time). -/
def reached (clock t : Nat) : Bool :=
  decide ((clock + clockModulus - t % clockModulus) % clockModulus ≤ 2147483647)

end Sys2Proof
end

