-- ==== Sys2Proof/Syntax.lean ====
section
/-! DEFINITION. The commands of the KQ-40: one constructor for each row of spec/opcode_table.json, in the
table's order, with the row's operands. Figures are natural numbers as the spec gives them; WellFormed.lean
bounds each to the width its field has. -/

namespace Sys2Proof

/-- A ticket as the exchange controller hands it on: its slot of the ticket table, its sequence and the order
its header names (R173, R174). -/
structure Ticket where
  slot : Nat
  seq : Nat
  order : Nat
deriving DecidableEq, Repr

/-- One item description of an ORDER_ADD_ITEMS (R8). -/
structure ItemDesc where
  address : Nat
  product : Nat
  copies : Nat
  preStaged : Nat
deriving DecidableEq, Repr

/-- One extent of a CARD_READ (R46, R56). -/
structure Extent where
  start : Nat
  count : Nat
  dest : Nat
deriving DecidableEq, Repr

/-- The fault codes a mechanism sends (R116). -/
inductive MechFaultCode where
  | jam | ribbonBreak | coverOpen | heater
deriving DecidableEq, Repr

/-- How the kiosk processor's side ends a burst (R192): a read with its data, a write with its acknowledgement
(`done`, the data of a write being ignored), or either as failed. -/
inductive BurstResult where
  | done (data : List Byte)
  | failed
deriving DecidableEq, Repr

/-- The commands, one for each row of spec/opcode_table.json. -/
inductive Instr where
  -- the register window and the resets
  | run
  | stop
  | softReset
  | nudge (value : Word32)
  | attnCauseWrite (value : Word32)
  | attnEnableWrite (value : Word32)
  | exchBaseLowWrite (value : Word32)
  | exchBaseHighWrite (value : Word32)
  | registerWriteNoEffect (offset : Nat) (value : Word32)
  | powerOnReset
  | linkReset
  -- the exchange controller and the memory mover
  | scanTimerExpiry
  | logLingerExpiry
  | settingsApplied
  | waitingProducerStep
  | burstEnd (result : BurstResult)
  | burstReadTimeout
  -- orders
  | orderOpen (t : Ticket) (station cls profile finish : Nat)
  | orderAddItems (t : Ticket) (items : List ItemDesc)
  | orderQuote (t : Ticket)
  | orderCancel (t : Ticket)
  | orderDropItem (t : Ticket) (item : Nat)
  | orderResolve (t : Ticket) (answer reference amount : Nat)
  | abandonExpiry (order : Nat)
  | loadPrices (t : Ticket) (address : Nat)
  -- card intake
  | cardInsertion (slot : Fin 4)
  | cardRemoval (slot : Fin 4)
  | cardSettleEnd (slot : Fin 4)
  | identifyAnswer (slot : Fin 4) (capacity check : Nat)
  | identifyTimeout (slot : Fin 4)
  | cardRead (t : Ticket) (slot item : Nat) (extents : List Extent)
  | blockAnswer (slot : Fin 4) (data : List Byte) (check : Nat)
  | blockTimeout (slot : Fin 4)
  -- print engines
  | engineControlEvacuate (t : Ticket) (engine : Nat)
  | engineControlPause (t : Ticket) (engine : Nat)
  | engineControlResume (t : Ticket) (engine : Nat)
  | engineControlReset (t : Ticket) (engine : Nat)
  | mediaSet (t : Ticket) (engine kind sheets ribbons : Nat)
  | engineProof (t : Ticket) (engine profile finish temp lines source dest : Nat)
  | loadTone (t : Ticket) (profile colour address : Nat)
  | mechReady (engine : Fin 2) (temp : Nat)
  | mechFault (engine : Fin 2) (code : MechFaultCode)
  | mechLineRequest (engine : Fin 2) (temp : Nat)
  | mechEjectDone (engine : Fin 2) (temp : Nat)
  | engineSilence (engine : Fin 2)
  | printSilence (engine : Fin 2)
  | printEndStep (engine : Fin 2)
  -- the tender link
  | tenderFrameReceived (bytes : List Byte)
  | receiveGapTimeout
  | receiveQueueProcess
  | linkSilence
  | transmitGapElapsed
  | transmitEnd
  | responseExpiry
  | queryExpiry
  | payCard (t : Ticket)
  | linkTestLoopOn (t : Ticket) (mode : Nat)
  | linkTestLoopOff (t : Ticket)
  | linkTestSend (t : Ticket) (count : Nat)
  | linkTestInsertError (t : Ticket)
  -- the cash acceptor
  | cashPulseCompleted (length : Nat)
  | lineFaultSet
  | lineFaultCleared
  | cashFaultApplied
  | payCashBind (t : Ticket)
  | cashBindApplied
  | payCashUnbind (t : Ticket)
  | settleWindowExpiry
  | cashCreditApplied
  | cashStrayApplied
  | windowEndApplied
  -- settings, counters and the bus
  | refreshSettings (t : Ticket)
  | readCounters (t : Ticket)
  | reportTimerExpiry
  | counterReport
  | busMasterEnableChange (enabled : Bool)
deriving DecidableEq, Repr

end Sys2Proof
end

