-- ==== Sys2Proof/Decode.lean ====
section
/-! DEFINITION. The commands that a word spells. The rows of spec/opcode_table.json give no bits ("n_rows_with_fixed": 0
in 98_reader.md): the KQ-40's commands are register writes, tickets and events, so no word spells any of them. The byte layouts
that the part itself decodes (ticket bodies, the setup block, tender frames) are in Machine/Operands.lean and
Machine/Tender.lean. -/

namespace Sys2Proof

/-- No row of the table gives bits, so a word spells no command. -/
def decodeTableWord (_nbits _w : Nat) : Option Instr := none

end Sys2Proof
end

