-- ==== Sys2Proof/Config.lean ====
section
/-! DEFINITION. What one KQ-40 fixes: the figures its rules state, and the one free value that the
model takes from outside (notes/assumptions/7.md). -/

namespace Sys2Proof.Config

/-- The byte at place `n` of a read burst or of a card block whose command carries fewer bytes than the burst or
block has. The spec gives such bytes no value: a FREE VALUE, nothing constrains it (log entry 7). -/
opaque freeByte : Nat → Byte

/-- The pending outcome queue has 16 places (R178). -/
def outcomePlaces : Nat := 16
/-- The order table holds 16 order records (R1). -/
def orderRecords : Nat := 16
/-- An order holds at most 24 items (R2). -/
def maxItems : Nat := 24
/-- Most copies of one item (R3, R8). -/
def maxCopies : Nat := 99
/-- Money limit of an order record (00_scope.md, Money; R34, R35). -/
def moneyLimit : Nat := 1000000
/-- Limit of the cash credited (00_scope.md, Money; R165). -/
def cashLimit : Nat := 2000000
/-- The largest number the result detail can carry (R34). -/
def detailLimit : Nat := 536870911
/-- One past the largest 64-bit address. -/
def addressLimit : Nat := 18446744073709551616
/-- The largest picture, in bytes (R8). -/
def pictureBytes : Nat := 9216000
/-- A slot's read queue holds 4 read entries (R46). -/
def readQueuePlaces : Nat := 4
/-- A run queue holds 8 runs (R72). -/
def runQueuePlaces : Nat := 8
/-- A context stack holds 3 frames (R72). -/
def stackPlaces : Nat := 3
/-- A source ring holds 16 lines (R96). -/
def ringPlaces : Nat := 16
/-- The receive queue holds 8 frames (R138). -/
def receivePlaces : Nat := 8
/-- Orphan places of the request queue (R144). -/
def orphanPlaces : Nat := 4
/-- The heating elements of a head (R96). -/
def dots : Nat := 1280
/-- Bytes of one source line (R102). -/
def lineBytes : Nat := 3840
/-- Bytes of one proof output line (R111). -/
def proofLineBytes : Nat := 2560
/-- A counter stops at 65,535 (R195). -/
def counterLimit : Nat := 65535
/-- Sheet and ribbon set counts stop at 1,000 (R133). -/
def mediaLimit : Nat := 1000

/-- Settle time of a slot, ms (R49). -/
def settleTime : Nat := 20
/-- Wait for an identify answer, ms (R51). -/
def identifyWait : Nat := 100
/-- Wait for a block answer, ms (R59). -/
def blockWait : Nat := 50
/-- Wait for the data of a read burst, ms (R192). -/
def burstWait : Nat := 50
/-- Silence outside a print, ms (R118). -/
def engineSilence : Nat := 1000
/-- Gap during a print, ms (R122). -/
def printGap : Nat := 2000
/-- Longest gap within a received frame, ms (R140). -/
def receiveGap : Nat := 20
/-- Silence of the tender link, ms (R143). -/
def linkSilence : Nat := 3000
/-- Gap between two transmitted frames, ms (R145). -/
def transmitGap : Nat := 30
/-- Length of the settle window, ms (R163). -/
def settleWindow : Nat := 500

/-- Fuel of one step's requests in course: more than any command of a reachable state needs; what it leaves over stays
in State and goes on at the next step (log entry 5). -/
def fuel : Nat := 4096

end Sys2Proof.Config
end

