-- ==== Sys2Proof/Machine/State.lean ====
section
/-! DEFINITION. The state of the KQ-40 as plain data, and its value right after power-on reset. One structure for each
block of 00_scope.md's block diagram; each field cites the rule that names it. "MODEL" marks a field of the model's own: something
the spec implies (a timer's start, what an output last carried) or the machinery of R5, R72 and R178 (INVENTORY.md, State). -/

namespace Sys2Proof.Machine

/-! ## Banks of like things -/

/-- Two like things: the engines, renderers and ports 0 and 1. -/
structure Two (α : Type) where
  zero : α
  one : α
deriving DecidableEq, Repr

/-- Four like things: the card slots 0 to 3. -/
structure Four (α : Type) where
  zero : α
  one : α
  two : α
  three : α
deriving DecidableEq, Repr

/-! ## Codes (R203: numbered from 0 in the order their rule lists them) -/

/-- The states of a live order (R1). -/
inductive OrderState where
  | opened | quoted | funding | funded | producing | cancelling | settling | unresolved
deriving DecidableEq, Repr

/-- The causes of a change of an order's state (R6). -/
inductive OrderCause where
  | ticket | funds | print | accounted | quiet | tender | abandon
deriving DecidableEq, Repr

/-- The cause held with cancel requested (R2). -/
inductive CancelCause where
  | cancel | abandon
deriving DecidableEq, Repr

/-- The close reasons of ORDER CLOSED (R6). -/
inductive CloseReason where
  | completed | cancelled | abandoned
deriving DecidableEq, Repr

/-- The class of an order and of its runs (R2, R71). -/
inductive OrderClass where
  | standard | express
deriving DecidableEq, Repr

/-- The finish of an order's prints (R2, R109). -/
inductive Finish where
  | glossy | matte
deriving DecidableEq, Repr

/-- The staging mark of an item (R3). -/
inductive Staging where
  | unstaged | staging | staged
deriving DecidableEq, Repr

/-- A staging report of the card intake unit (R10). -/
inductive StagingReport where
  | start | success | failure
deriving DecidableEq, Repr

/-- The kinds of request made of the payment terminal (R2, R144). -/
inductive RequestKind where
  | hold | capture | release | orphan
deriving DecidableEq, Repr

/-- The result codes of a ticket (12.4). -/
inductive ResultCode where
  | ok | badKind | badField | dupOrder | tableFull | noOrder
  | wrongState | tooLarge | noPrice | busy | inUse | notBound
  | cardAbsent | badExtent | readError | memoryError | cardRemoved | cancelled
  | stopped | approved | partialHold | declined | unresolved | testActive
deriving DecidableEq, Repr

/-- Slot states (R46). -/
inductive SlotState where
  | empty | settled | identifying | ready | reading | faulted
deriving DecidableEq, Repr

/-- The causes of a change of a slot's state (R53). -/
inductive CardCause where
  | inserted | settled | identified | idFailed | removed | readBegin | queueEmpty
deriving DecidableEq, Repr

/-- The cause of a failed identify attempt (R52). -/
inductive IdentifyFailure where
  | noAnswer | check | zeroCapacity
deriving DecidableEq, Repr

/-- A presence declaration (R47). -/
inductive Declaration where
  | insertion | removal
deriving DecidableEq, Repr

/-- What ends a read at its next block boundary (R65, R68). -/
inductive ReadStop where
  | cancelled | stopped
deriving DecidableEq, Repr

/-- Engine states (R115). -/
inductive EngineState where
  | offline | idle | printing | blocked | held | cooling | noMedia | paused | fault | proof
deriving DecidableEq, Repr

/-- The causes of an ENGINE outcome (R117). -/
inductive EngineCause where
  | ready | silent | fault | boundary | printStart | spoil | spoilWritten | temperature
  | pause | resume | mediaSet | reset | proof | proofEnd | profileWait
deriving DecidableEq, Repr

/-- The fault record of an engine port (R115). -/
inductive FaultCode where
  | jam | ribbonBreak | coverOpen | heater | silent | protocol
deriving DecidableEq, Repr

/-- The first failure cause of a print (R115). -/
inductive FailCause where
  | late | fetchError | fault
deriving DecidableEq, Repr

/-- The passes of a print (00_scope.md, Terms; R104). -/
inductive Pass where
  | y | m | c | o
deriving DecidableEq, Repr

/-- The phases of a print (R115). -/
inductive Phase where
  | feed | pass (p : Pass) | eject | ended
deriving DecidableEq, Repr

/-- The scheduler's answer on how a copy goes on (R82); a delivered print's answer is `none` where it is used. -/
inductive CopyAnswer where
  | reprint | noReprint | endedRun
deriving DecidableEq, Repr

/-- What a blocked run waits for (R71). -/
inductive Awaited where
  | item (i : Nat) | funding
deriving DecidableEq, Repr

/-- The states of a run (R71). -/
inductive RunState where
  | queued | active | blocked | stacked | parked
deriving DecidableEq, Repr

/-- How a stack entry was saved (R84). -/
inductive SavedAs where
  | stacked | parked
deriving DecidableEq, Repr

/-- The events of a PRINT outcome of the scheduler (12.6). -/
inductive RunEvent where
  | runPlaced | noEngine | runActive | runPushed | runParked | pushFailed | runResumed | runEnded | runLost | runReturned
deriving DecidableEq, Repr

/-- The causes of a PRINT outcome of the scheduler (12.6). -/
inductive RunCause where
  | completed | cancelled | check | memory
deriving DecidableEq, Repr

/-- The answer to a request for a print's grant (R15). -/
inductive GrantAnswer where
  | granted | notFunded | notStaged | noCopy | noOrder
deriving DecidableEq, Repr

/-- Terminal states (R138). -/
inductive TermState where
  | idle | presentCard | pinEntry | authorizing | removeCard | outOfService
deriving DecidableEq, Repr

/-- The phases of the outstanding request (R146, R148). `awaitQuery q`: the QUERY with sequence `q` has been sent. -/
inductive TenderPhase where
  | awaitResult | queryDue | awaitQuery (q : Nat)
deriving DecidableEq, Repr

/-- A result of the terminal, in a result frame or repeated by a QUERY_RESULT (R147, R149, R204). -/
inductive TenderResult where
  | holdApproved (reference amount : Nat)
  | holdDeclined
  | captureDone
  | captureRefused
  | released
deriving DecidableEq, Repr

/-- The result field of a PAYMENT outcome (12.6). -/
inductive PayResult where
  | approved | partialHold | declined | done | refused | released | unknown | pending
deriving DecidableEq, Repr

/-- The events of a PAYMENT outcome (12.6). -/
inductive PayEvent where
  | sent | badResult | answered | queried | unresolved | duplicate | late | orphanReleased | withdrawn
deriving DecidableEq, Repr

/-- The mark of a PAYMENT outcome (12.6). -/
inductive PayMark where
  | orphanUnresolved | orphanNotReleased
deriving DecidableEq, Repr

/-- The events of a TENDER outcome (12.6). -/
inductive TenderEvent where
  | state | linkDown | linkUp | loop
deriving DecidableEq, Repr

/-- The binding phase of the cash acceptor interface (R157). -/
inductive BindPhase where
  | none | bound | window
deriving DecidableEq, Repr

/-- The events of a CASH outcome (R158). -/
inductive CashEvent where
  | bound | credit | unbound | stray | fault | faultCleared
deriving DecidableEq, Repr

/-- The reasons of a CASH outcome (12.6). -/
inductive CashReason where
  | noBinding | ceiling | orderClosed | funded | departed | unbind | acceptorFault
deriving DecidableEq, Repr

/-- The part state (R184, 12.2). -/
inductive PartState where
  | reset | starting | running | stopping | stopped | halted
deriving DecidableEq, Repr

/-- The halt cause (R187). -/
inductive HaltCause where
  | none | setup | ticket | log
deriving DecidableEq, Repr

/-- The attention causes (R182), each with its bit place of ATTN_CAUSE (12.2). -/
inductive Attn where
  | log | logFull | card | engine | tender | counter | halt
deriving DecidableEq, Repr

/-- The sixteen counters (R195). -/
inductive CounterId where
  | checkErrors (slot : Fin 4) | retriesExhausted (slot : Fin 4) | lateLines (engine : Fin 2)
  | frameErrors | framesLost | glitch | invalidPulses | strayCash | logFullWaits
deriving DecidableEq, Repr

/-! ## Settings (R171, R97) -/

/-- The counter report mode (R171, R198). -/
inductive ReportMode where
  | manual | auto (seconds : Nat)
deriving DecidableEq, Repr

/-- One engine's render settings with its cooling thresholds (R97, R127). -/
structure RenderSet where
  gainY : Nat := 0
  gainM : Nat := 0
  gainC : Nat := 0
  maxY : Nat := 1
  maxM : Nat := 1
  maxC : Nat := 1
  overcoat : Nat := 0
  tRef : Nat := 0
  slope : Nat := 0
  history : Nat := 0
  decay : Nat := 0
  weight : Nat := 0
  tStop : Nat := 0
  tResume : Nat := 0
deriving DecidableEq, Repr

/-- The settings of R171 with the values held after reset. `notify` is 0 for EACH and k for k eighths; a time is in the unit of its
field. -/
structure Settings where
  logSize : Nat := 256
  tolerant : Bool := false
  pulseValue : Nat := 100
  report : ReportMode := .manual
  scanInterval : Nat := 10
  notify : Nat := 0
  linger : Nat := 100
  abandon : Nat := 600
  taxRate : Nat := 0
  holdTimeout : Nat := 120
  shortTimeout : Nat := 10
  reprintBudget : Nat := 1
  cardBoth : Bool := false
  engineBoth : Bool := false
  tenderBoth : Bool := false
  render : Two RenderSet := ⟨{}, {}⟩
deriving DecidableEq, Repr

/-! ## The order table (Orders) and the quote and settlement unit -/

/-- One item entry of an order (R3). -/
structure Item where
  product : Nat
  address : Nat
  copies : Nat
  staging : Staging
  unitPrice : Option Nat := none
  assigned : Nat := 0
  delivered : Nat := 0
  spoiled : Nat := 0
  withdrawn : Nat := 0
  undeliverable : Nat := 0
deriving DecidableEq, Repr

/-- The tender request field of an order (R2); `cardPart` is kept with a capture (R41). -/
structure OrderRequest where
  kind : RequestKind
  amount : Nat
  seq : Option Nat := none
  cardPart : Nat := 0
deriving DecidableEq, Repr

/-- The unresolved request field of an order (R2, R24). -/
structure UnresolvedRequest where
  kind : RequestKind
  amount : Nat
  seq : Nat
  cardPart : Nat
  prior : OrderState
  /-- MODEL: its sequence stands on the reserved list; that of a REFUSED capture does not (R150). -/
  reserved : Bool := true
deriving DecidableEq, Repr

/-- A live order record (R2). A free record carries nothing and has no entry in the table. -/
structure Order where
  number : Nat
  station : Nat
  cls : OrderClass
  profile : Nat
  finish : Finish
  state : OrderState := .opened
  items : List Item := []
  subtotal : Option Nat := none
  taxRate : Option Nat := none
  quote : Option Nat := none
  held : Option Nat := none
  holdRef : Option Nat := none
  cash : Nat := 0
  charge : Option Nat := none
  captured : Option Nat := none
  surplus : Option Nat := none
  shortfall : Option Nat := none
  cancel : Option CancelCause := none
  cashBound : Bool := false
  awaitingEngine : Bool := false
  request : Option OrderRequest := none
  unresolved : Option UnresolvedRequest := none
  lastActivity : Nat
deriving DecidableEq, Repr

/-- A product entry (R28). -/
structure Product where
  valid : Bool := false
  media : Nat := 0
  lines : Nat := 0
  min1 : Nat := 0
  price1 : Nat := 0
  min2 : Nat := 0
  price2 : Nat := 0
  min3 : Nat := 0
  price3 : Nat := 0
deriving DecidableEq, Repr

/-- A LOAD_PRICES taken and not ended; the head of the list is the one being read (R31). -/
structure PriceLoad where
  ticket : Ticket
  address : Nat
deriving DecidableEq, Repr

/-! ## Card intake -/

/-- A read entry (R46). -/
structure ReadEntry where
  ticket : Ticket
  order : Nat
  item : Nat
  extents : List Extent
  blocksDone : Nat := 0
  /-- MODEL: set when a cancel or a stop is to end the read in flight at its next block boundary (R65, R68). -/
  endAs : Option ReadStop := none
deriving DecidableEq, Repr

/-- The read position of the read in flight (R46). -/
structure ReadPos where
  extent : Nat
  block : Nat
  attempt : Nat
deriving DecidableEq, Repr

/-- What the slot has asked of its card and has no answer to yet (R51, R59). -/
inductive CardRequest where
  | identify | block (number : Nat)
deriving DecidableEq, Repr

/-- A slot controller (R46). -/
structure Slot where
  state : SlotState := .empty
  /-- declared presence PRESENT -/
  declared : Bool := false
  presentRun : Nat := 0
  absentRun : Nat := 0
  waiting : Option Declaration := none
  power : Bool := false
  capacity : Nat := 0
  attempts : Nat := 0
  queue : List ReadEntry := []
  pos : Option ReadPos := none
  /-- MODEL: the request on the card bus (R50, R51, R59). -/
  request : Option CardRequest := none
  /-- MODEL: a block's write is with the memory mover (R59). -/
  writing : Bool := false
  /-- MODEL: when the settle time or the wait for an answer began (R49, R51, R59). -/
  since : Nat := 0
  /-- The card-detect input: true when it shows a card (R47, 12.9). -/
  detect : Bool := false
deriving DecidableEq, Repr

/-! ## Print scheduling -/

/-- A run (R71). -/
structure Run where
  order : Nat
  engine : Fin 2
  kind : Nat
  cls : OrderClass
  profile : Nat
  finish : Finish
  item : Nat
  copy : Nat
  /-- next print is REPRINT -/
  reprint : Bool := false
  reprintsLeft : Nat := 0
  state : RunState := .queued
  awaited : Option Awaited := none
  ending : Bool := false
deriving DecidableEq, Repr

/-- A directory entry of a context stack (R84). -/
structure DirEntry where
  order : Nat
  check : Nat
  void : Bool := false
  savedAs : SavedAs
  awaited : Option Awaited := none
  reprintItem : Option Nat := none
deriving DecidableEq, Repr

/-- The stack access of an engine (R72). A push keeps the run that left the active slot, to give it back on an error, and what it was begun for:
STACKED a pre-emption, PARKED a parking (R86). -/
inductive StackAccess where
  | none | push (pos : Nat) (run : Run) (why : SavedAs) | pop (pos : Nat)
deriving DecidableEq, Repr

/-- The scheduler's state for one engine (R72). -/
structure SchedEngine where
  queue : List Run := []
  active : Option Run := none
  stack : List DirEntry := []
  access : StackAccess := .none
  /-- MODEL: a decision of R78 is wanted and held, while a push or pop is in progress or the part is not RUNNING. -/
  heldDecision : Bool := false
  /-- MODEL: the parking test of R90 is wanted and held, in the same way. -/
  heldTest : Bool := false
  /-- MODEL: the decision that a run's arrival brings is wanted and held, in the same way (R76, R78). -/
  heldArrival : Bool := false
deriving DecidableEq, Repr

/-- A print handed to an engine port (R81). -/
structure Print where
  order : Nat
  item : Nat
  copy : Nat
  reprint : Bool
  profile : Nat
  finish : Finish
  kind : Nat
deriving DecidableEq, Repr

/-- The print record (R115). -/
structure PrintRecord where
  print : Print
  lines : Nat
  lineIndex : Nat := 0
  failed : Nat := 0
  firstCause : Option FailCause := none
  /-- MODEL: the print was ended by a fault (R125). -/
  faulted : Bool := false
deriving DecidableEq, Repr

/-- A command of the part to a mechanism (R116). -/
inductive MechCommand where
  | feed | passBegin (colour : Pass) (lines : Nat) | eject
deriving DecidableEq, Repr

/-- An engine port (R115). -/
structure Port where
  state : EngineState := .offline
  phase : Option Phase := none
  record : Option PrintRecord := none
  waitingPrint : Option Print := none
  media : Option Nat := none
  sheets : Nat := 0
  ribbons : Nat := 0
  lastTemp : Option Nat := none
  pauseRequested : Bool := false
  spoilUnwritten : Bool := false
  faultRecord : Option FaultCode := none
  watching : Bool := false
  /-- MODEL: a boundary is offered to the scheduler and not answered (R78, R119). -/
  offered : Bool := false
  /-- MODEL: the cause that the event which ran the boundary test names for a change (R119). -/
  testCause : Option EngineCause := none
  /-- MODEL: when the last READY or FAULT arrived (R118). -/
  heardAt : Nat := 0
  /-- MODEL: when the last signal of any kind arrived, or the print started (R122). -/
  signalAt : Nat := 0
  /-- Output: the last command sent to the mechanism (R116). -/
  command : Option MechCommand := none
  /-- Output: the last line data sent to the mechanism (R116). -/
  lineData : List Nat := []
deriving DecidableEq, Repr

/-! ## Line rendering -/

/-- The activity of a renderer (R96). -/
inductive Activity where
  | idle | print | proof
deriving DecidableEq, Repr

/-- The print in hand (R96); a proof run sets it from its ticket. -/
structure InHand where
  image : Nat
  lines : Nat
  profile : Nat
  finish : Finish
deriving DecidableEq, Repr

/-- A source line of the ring, GOOD or BAD (R96). -/
structure SourceLine where
  good : Bool
  bytes : List Byte
deriving DecidableEq, Repr

/-- The line in fetch (R96). `stale`: its print has ended and it is discarded when it ends (R103). -/
structure Fetch where
  pass : Pass
  line : Nat
  stale : Bool := false
deriving DecidableEq, Repr

/-- A proof run in progress (R110 to R113). -/
structure Proof where
  ticket : Ticket
  dest : Nat
  temp : Nat
  /-- waits in PROOF for its profile (R112 step 1) -/
  waiting : Bool := false
  pass : Pass := .y
  line : Nat := 0
  /-- output lines whose writes were acknowledged -/
  written : Nat := 0
  /-- an output line's write is with the mover -/
  writing : Bool := false
  /-- a memory error has ended the run (R113) -/
  failed : Bool := false
  /-- every output line has been handed to the mover -/
  complete : Bool := false
deriving DecidableEq, Repr

/-- A line renderer (R96). `fetchPos` is none for DONE. The latched settings before the first RUN, for which R96 gives no value, are the lowest
value of each range (DESIGN CHOICE, log entry 47). -/
structure Renderer where
  activity : Activity := .idle
  inHand : Option InHand := none
  latched : RenderSet := {}
  pass : Option Pass := none
  lineIndex : Nat := 0
  heat : List Nat := List.replicate Config.dots 0
  ring : List SourceLine := []
  fetchPos : Option (Pass × Nat) := none
  inFetch : Option Fetch := none
  skip : Nat := 0
  margin : Nat := 16
  reserved : Option Nat := none
  proof : Option Proof := none
deriving DecidableEq, Repr

/-- A LOAD_TONE of the load list (R99). -/
structure ToneLoad where
  ticket : Ticket
  profile : Nat
  colour : Nat
  address : Nat
  reading : Bool := false
deriving DecidableEq, Repr

/-! ## The tender link -/

/-- A valid frame of the receive queue (R138). -/
structure RxFrame where
  seq : Nat
  kind : Nat
  payload : List Byte
  arrival : Nat
deriving DecidableEq, Repr

/-- An entry of the request queue: an order entry, or an orphan entry with order 0 (R144). `ticket` is the PAY_CARD of a
HOLD, which stays TAKEN until the terminal's answer is known (R153). -/
structure TenderEntry where
  kind : RequestKind
  order : Nat
  amount : Nat
  reference : Nat
  ticket : Option Ticket := none
deriving DecidableEq, Repr

/-- The outstanding request (R138, R146). -/
structure Outstanding where
  entry : TenderEntry
  seq : Nat
  phase : TenderPhase := .awaitResult
  expiry : Option Nat := none
  pendingUsed : Bool := false
deriving DecidableEq, Repr

/-- What a frame in transmission was sent for (R146, R148, R201). -/
inductive TxFor where
  | request (seq : Nat) | query (about : Nat) (seq : Nat) | test
deriving DecidableEq, Repr

/-- A frame in transmission (R146). -/
structure Transmission where
  what : TxFor
  bytes : List Byte
  started : Nat
deriving DecidableEq, Repr

/-- A LINK_TEST SEND in course (R201). -/
structure TestSend where
  ticket : Ticket
  total : Nat
  started : Nat
deriving DecidableEq, Repr

/-- The tender link controller (R138) and its loopback (R200). -/
structure Tender where
  listening : Bool := false
  /-- the bytes of a frame in assembly; empty in HUNT -/
  rx : List Byte := []
  rxLast : Nat := 0
  queue : List RxFrame := []
  linkUp : Bool := false
  lastValid : Option Nat := none
  candidate : Option TermState := none
  accepted : Option TermState := none
  requests : List TenderEntry := []
  outstanding : Option Outstanding := none
  nextSeq : Nat := 1
  answered : List Nat := []
  reservedSeqs : List Nat := []
  lastTxEnd : Option Nat := none
  /-- MODEL: the frame in transmission (R146, R156). -/
  tx : Option Transmission := none
  loopOn : Bool := false
  /-- the loop's mode is QUIET -/
  quiet : Bool := false
  echo : Nat := 0
  armed : Nat := 0
  heldLink : Bool := false
  heldAccepted : Option TermState := none
  /-- MODEL: the SEND in course and the LINK_TEST tickets behind it (R201). -/
  testSend : Option TestSend := none
  deferred : List Instr := []
deriving DecidableEq, Repr

/-! ## The cash acceptor interface -/

/-- An element of the waiting list: a credit group (destination none is STRAY) or an event of the interface (R157). -/
inductive CashItem where
  | credit (dest : Option Nat) (count : Nat)
  | bind (ticket : Ticket) (seen need : Nat)
  | windowEnd
  | fault
  | faultCleared
deriving DecidableEq, Repr

/-- The cash acceptor interface (R157). -/
structure Cash where
  sampling : Bool := false
  lowRun : Nat := 0
  lineFault : Bool := false
  highRun : Nat := 0
  faultFlag : Bool := false
  pulseValue : Nat := 100
  phase : BindPhase := .none
  bound : Nat := 0
  windowEnd : Option Nat := none
  seen : Nat := 0
  need : Nat := 0
  list : List CashItem := []
  /-- inhibit output ASSERTED -/
  inhibit : Bool := true
  /-- MODEL: what opened the window, the reason of CASH UNBOUND (R167). -/
  windowReason : CashReason := .unbind
  /-- MODEL: PAY_CASH_BIND tickets that wait for the list to empty (R161). -/
  bindWaiting : List Ticket := []
  /-- The pulse input: true when it is high (12.9). -/
  lineHigh : Bool := true
deriving DecidableEq, Repr

/-! ## Counters -/

/-- A counter with its saturation flag (R195). -/
structure Counter where
  value : Nat := 0
  saturated : Bool := false
deriving DecidableEq, Repr

/-- A due report: the sequence its outcomes carry and the READ_COUNTERS tickets that joined it (R199). -/
structure DueReport where
  seq : Nat
  tickets : List Ticket
deriving DecidableEq, Repr

/-- The counter block (R195 to R199). The sixteen counters stand in the order of a report's parts (R197). -/
structure CounterBlock where
  counters : List Counter := List.replicate 16 {}
  periodMark : Bool := false
  reportNumber : Nat := 0
  due : Option DueReport := none
  /-- when the report timer started; none while it is stopped (R198) -/
  timer : Option Nat := none
deriving DecidableEq, Repr

/-! ## Outcomes -/

/-- The payload of an outcome, by kind and source (12.6). -/
inductive Payload where
  | ticketDone (slot kind : Nat) (code : ResultCode) (detail : Nat)
  | orderState (abandoned : Bool) (prev : Option OrderState) (new : OrderState) (cause : OrderCause)
  | orderClosed (reason : CloseReason) (charge captured surplus shortfall spoiled : Nat)
  | counters (number part : Nat) (values : List Nat) (flags : List Bool)
  | card (cause : CardCause) (prev new : SlotState) (capacity attempts entries : Nat) (failure : Option IdentifyFailure)
  | engine (cause : EngineCause) (prev new : EngineState) (fault : Option FaultCode) (media : Option Nat)
      (sheets ribbons : Nat) (temp : Option Nat)
  | printRun (event : RunEvent) (kind : Nat) (cause : Option RunCause) (runs voids depth : Nat)
  | printEnd (spoiled : Bool) (item copy : Nat) (reprint : Bool) (failed : Nat) (first : Option FailCause)
      (fault : Option FaultCode) (answer : Option CopyAnswer) (sheets : Nat)
  | payment (event : PayEvent) (kind : Option RequestKind) (seq : Nat) (result : Option PayResult) (mark : Option PayMark)
      (reference amount : Nat)
  | tender (event : TenderEvent) (prev new : Option TermState) (link loop quiet : Bool) (echo : Nat)
  | cash (event : CashEvent) (count amount credited : Nat) (reason : Option CashReason) (inhibit : Bool)
  | settings (live refresh : Bool) (clamped : List Nat)
deriving DecidableEq, Repr

/-- An outcome of the pending outcome queue (R178). -/
structure OutcomeRecord where
  payload : Payload
  unit : Nat := 0
  order : Nat := 0
  seq : Nat := 0
  time : Nat
deriving DecidableEq, Repr

/-! ## The exchange controller -/

/-- A candidate of a scan: what the part keeps of a ticket header (R173, R177). -/
structure Header where
  slot : Nat
  kind : Nat
  seq : Nat
  order : Nat
deriving DecidableEq, Repr

/-- The take in course (R174): the candidate, and its body once that has been read. -/
structure Take where
  header : Header
  body : Option (List Byte) := none
deriving DecidableEq, Repr

/-- The scan state (R176, R177). `headers next found`: header `next` is being read. `taking left fence cur`: the candidates not yet
treated, the orders with an earlier candidate left untaken, and the take in course. -/
inductive Scan where
  | idle
  | reread
  | headers (next : Nat) (found : List Header)
  | taking (left : List Header) (fence : List Nat) (cur : Option Take)
deriving DecidableEq, Repr

/-- What the slot's checks of R56 make of a CARD_READ: the code and the detail of the first that fails, or the slot. -/
inductive ReadCheck where
  | refused (code : ResultCode) (detail : Nat)
  | passed (slot : Fin 4)
deriving DecidableEq, Repr

/-- A taken ticket handed on to its block and not yet applied there (R174). `read`: what the slot's checks made of a CARD_READ at its take (R56). -/
structure Handed where
  header : Header
  body : List Byte
  takenAt : Nat
  read : Option ReadCheck := none
deriving DecidableEq, Repr

/-- An ending of the completion list (R175). `kind` is the raw kind code of the header. -/
structure Ending where
  ticket : Ticket
  kind : Nat
  code : ResultCode
  detail : Nat
deriving DecidableEq, Repr

/-- The ticket writer (R175). -/
inductive WriterState where
  | idle | wantPlace | result | doneState | owner
deriving DecidableEq, Repr

/-- The log writer (R179, R180). `waiting`: at a full log; `rereading`: its slot's mark is being read again. -/
inductive LogWriter where
  | idle | mark | record | freshMark | waiting | rereading
deriving DecidableEq, Repr

/-- Why the setup block is read (R171, R172). -/
inductive SetupCause where
  | run | refresh (t : Ticket)
deriving DecidableEq, Repr

/-- A setup block that has been read and clamped, and waits to be applied (R172). -/
structure SetupReady where
  cause : SetupCause
  bothClasses : Bool
  settings : Settings
  clamped : List Nat
deriving DecidableEq, Repr

/-- The exchange controller with the register window (R169 to R188). -/
structure Exchange where
  part : PartState := .reset
  haltCause : HaltCause := .none
  /-- MODEL: STARTING was entered from STOPPED (R176, R184). -/
  fromStopped : Bool := false
  stopRemembered : Bool := false
  /-- MODEL: the part has entered RUNNING since the last reset (R185). -/
  ranOnce : Bool := false
  baseLow : Word32 := 0#32
  baseHigh : Word32 := 0#32
  settings : Settings := {}
  setupReading : Option SetupCause := none
  setupReady : Option SetupReady := none
  refreshes : List Ticket := []
  scan : Scan := .idle
  rescanOwed : Bool := false
  /-- when the scan timer started; none while it is stopped (R176) -/
  scanTimer : Option Nat := none
  /-- the slots whose in-flight mark is set (R173) -/
  inFlight : List Nat := []
  /-- MODEL: tickets handed on and not yet applied by their own row's command (log entry 3). -/
  handed : List Handed := []
  completions : List Ending := []
  writer : WriterState := .idle
  /-- the pending outcome queue (R178) -/
  outcomes : List OutcomeRecord := []
  /-- places taken by the ticket writer and not yet filled (R175) -/
  reservedPlaces : Nat := 0
  logWriter : LogWriter := .idle
  logPos : Nat := 0
  unannounced : Nat := 0
  firstUnannounced : Nat := 0
  attnCause : BitVec 7 := 0#7
  attnEnable : BitVec 7 := 0#7
  /-- Output: how often the vector has been signalled since reset (R183). -/
  vectorSignals : Nat := 0
  /-- The kiosk processor has enabled the part to master the bus (R192). -/
  busMaster : Bool := false
deriving DecidableEq, Repr

/-! ## The memory mover -/

/-- What a request of a client is for (R189). -/
inductive ReqTag where
  | setup | header (slot : Nat) | body (slot : Nat) | taken (slot : Nat)
  | result (slot : Nat) | doneState (slot : Nat) | owner (slot : Nat)
  | mark | record | freshMark
  | push (engine : Fin 2) | pop (engine : Fin 2)
  | block (slot : Fin 4)
  | source (engine : Fin 2) | proofLine (engine : Fin 2)
  | prices | tone
deriving DecidableEq, Repr

/-- A request: its address, length, data to write (none for a read), and how much has been done (R189, R190). -/
structure Request where
  tag : ReqTag
  address : Nat
  length : Nat
  write : Option (List Byte) := none
  moved : Nat := 0
  got : List Byte := []
deriving DecidableEq, Repr

/-- The current grant: one burst of one client, with the data of a write burst (R189, R192). -/
structure Grant where
  place : Nat
  address : Nat
  length : Nat
  write : Option (List Byte)
  issued : Nat
deriving DecidableEq, Repr

/-- The memory mover (R189). The clients' lists are held as one list in order of arrival: a client's list is the part of it that
bears the client's place. -/
structure Mover where
  requests : List Request := []
  grant : Option Grant := none
  lastPlace : Nat := 11
  /-- the line fetcher of the last urgent grant (R191); 1 after reset, so that line fetcher 0 comes first -/
  lastUrgent : Fin 2 := 1
deriving DecidableEq, Repr

/-! ## Requests in course and waiting producers (R5, R72, R115, R138, R178) -/

/-- Who applies requests one at a time, in the order they arrive: an order record (R5), the scheduler for an engine (R72), an engine port
(R115), a card slot (R48), the tender link controller (R138), the cash acceptor's waiting list (R157), the exchange controller's
settings (R172), the counter block (R197); and the awaiting list, which a placement that waits holds as it stands (R72). -/
inductive Owner where
  | order (n : Nat) | sched (e : Fin 2) | awaiting | port (e : Fin 2) | slot (n : Fin 4) | tender | cash | settings | counters
deriving DecidableEq, Repr

/-- A request that one block makes of another, or a step of a block that may have to wait for room (R178). `cmd c` is the step of the
table's row itself. -/
inductive Act where
  | cmd (c : Instr)
  -- order table
  | openOrder (t : Ticket) (station cls profile finish takenAt : Nat)
  | zeroQuoteFunded (n : Nat) (t : Ticket)
  | accounted (n seq : Nat)
  | quiet (n seq : Nat)
  | fundsTest (n seq : Nat)
  | returnTest (n : Nat) (cause : OrderCause) (seq : Nat)
  | closeOrder (n seq : Nat)
  | staging (n item : Nat) (r : StagingReport)
  | printReport (n item : Nat) (answer : Option CopyAnswer)
  | reprintGivenUp (n item : Nat)
  | withdrawHold (n : Nat)
  | handTender (entry : TenderEntry)
  -- card intake
  | insertionApplied (slot : Fin 4)
  | removalApplied (slot : Fin 4)
  | identified (slot : Fin 4) (capacity : Nat)
  | slotFaulted (slot : Fin 4) (why : IdentifyFailure)
  | readBegin (slot : Fin 4)
  | queueEmpty (slot : Fin 4) (order : Nat)
  | readOrder (t : Ticket) (slot : Fin 4) (item : Nat) (extents : List Extent)
  -- print scheduling
  | place (n : Nat) (retry : Bool) (excluded : Option (Fin 2))
  | placeKind (n kind : Nat) (retry : Bool) (excluded : Option (Fin 2))
  | placeDone (n : Nat)
  | retryAwaiting
  | decide (e : Fin 2)
  | choose (e : Fin 2)
  | hand (e : Fin 2)
  | grant (e : Fin 2) (p : Print)
  | grantAnswer (e : Fin 2) (p : Print) (a : GrantAnswer)
  | endActive (e : Fin 2) (cause : RunCause)
  | pushWritten (e : Fin 2) (ok : Bool)
  | popRead (e : Fin 2) (ok : Bool) (bytes : List Byte)
  | parkTest (e : Fin 2)
  | arrival (e : Fin 2)
  | answerHeld (e : Fin 2)
  | schedEnd (e : Fin 2) (n : Nat) (cause : RunCause)
  | notice (e : Fin 2) (n : Nat) (w : Awaited)
  | evacuated (t : Ticket) (count : Nat)
  -- engine ports
  | boundary (e : Fin 2) (cause : Option EngineCause) (seq : Nat)
  | printStart (e : Fin 2) (p : Print)
  | portIdle (e : Fin 2)
  | portBlocked (e : Fin 2)
  | printEnd (e : Fin 2)
  | profileFreeAt (e : Fin 2) (profile : Nat)
  | spoilWritten (e : Fin 2)
  -- line rendering
  | toneHead
  | proofReserve (e : Fin 2)
  | proofStep (e : Fin 2)
  | proofEnd (e : Fin 2)
  -- exchange controller and mover
  | refuse (t : Ticket) (kind : Nat) (detail : Nat) (at_ : List Owner)
  | ticketPlace
  | burstError
deriving DecidableEq, Repr

/-- A request in course or waiting. `held`: the blocks and records at which the request that made it was being applied. There it continues that
request, which is applied whole before the next, and goes ahead of what arrived later (R5, R72, R115, R138). -/
structure Job where
  held : List Owner
  act : Act
deriving DecidableEq, Repr

/-! ## The whole part -/

/-- The state of the KQ-40. `pending` is the queue of commands that wait, first in, first out; `agenda` the requests in course within a
step (empty between steps, log entry 5); `waiting` the waiting line of R178. -/
structure State where
  pending : List Instr
  clock : Nat
  exch : Exchange
  mover : Mover
  orders : List Order
  products : List Product
  useCounts : List Nat
  priceLoads : List PriceLoad
  slots : Four Slot
  sched : Two SchedEngine
  awaiting : List Nat
  ports : Two Port
  renderers : Two Renderer
  tones : List (List Nat)
  toneLoads : List ToneLoad
  tender : Tender
  cash : Cash
  counters : CounterBlock
  waiting : List Job
  agenda : List Job
deriving DecidableEq, Repr

/-- The faults of the machine: none. The spec describes every error of the part as an outcome, a result code or the part state HALTED
(R187), each of which is a next state; no rule stops the part. -/
inductive Fault where
deriving DecidableEq, Repr

/-- The refusals of the machine. -/
inductive Refusal where
  /-- Raised by exec's arm for a row that has no meaning yet (safe: the model stops). No arm raises it. -/
  | notModelled (mnemonic : String)
deriving DecidableEq, Repr

/-- The default tone entry for input value `v` (R98). -/
def defaultTone (v : Nat) : Nat := 4 * v + v / 64

/-- The default tone table of 256 entries (R98). -/
def defaultTable : List Nat := (List.range 256).map defaultTone

/-- The machine right after power-on reset (R188 and the reset rule of each block): no order, every table at its reset value, the part
in RESET. -/
def State.reset : State where
  pending := []
  clock := 0
  exch := {}
  mover := {}
  orders := []
  products := List.replicate 32 {}
  useCounts := List.replicate 32 0
  priceLoads := []
  slots := ⟨{}, {}, {}, {}⟩
  sched := ⟨{}, {}⟩
  awaiting := []
  ports := ⟨{}, {}⟩
  renderers := ⟨{}, {}⟩
  tones := List.replicate 12 defaultTable
  toneLoads := []
  tender := {}
  cash := {}
  counters := {}
  waiting := []
  agenda := []

end Sys2Proof.Machine
end

