-- ==== Sys2Proof/Machine/Flags.lean ====
section
/-! DEFINITION. Flags: the attention causes and their enables (R182, R183), the flags of a result detail (12.4), and the saturation flags of
the counters (R195, R196). -/

namespace Sys2Proof.Machine

/-- The bit place of a cause in ATTN_CAUSE and ATTN_ENABLE (12.2). -/
def Attn.place : Attn → Nat
  | .log => 0 | .logFull => 1 | .card => 2 | .engine => 3 | .tender => 4 | .counter => 5 | .halt => 6

/-- A word with one cause's place set. -/
def Attn.mask (a : Attn) : BitVec 7 := 1#7 <<< a.place

/-- The attention line: active while at least one cause is both latched and enabled (R183). -/
def attentionActive (cause enable : BitVec 7) : Bool := (cause &&& enable) != 0#7

/-- Causes and enables replaced; the vector is signalled when the line goes from inactive to active (R183). -/
def Exchange.setAttention (x : Exchange) (cause enable : BitVec 7) : Exchange :=
  { x with
    attnCause := cause
    attnEnable := enable
    vectorSignals := x.vectorSignals +
      (if !attentionActive x.attnCause x.attnEnable && attentionActive cause enable then 1 else 0) }

/-- A cause set: it is latched, and a latched cause stays latched (R182). -/
def Exchange.latch (x : Exchange) (a : Attn) : Exchange :=
  x.setAttention (x.attnCause ||| a.mask) x.attnEnable

/-- Bit 31 of a result detail (12.4). -/
def clampedFlag : Nat := 2147483648
/-- Bit 30 of a result detail (12.4). -/
def alreadyFlag : Nat := 1073741824
/-- Bit 29 of a result detail (12.4). -/
def notFaultedFlag : Nat := 536870912

/-- A counter's place in the order of a report's values (R197). -/
def CounterId.place : CounterId → Nat
  | .checkErrors n => 2 * n.val
  | .retriesExhausted n => 2 * n.val + 1
  | .lateLines e => 8 + e.val
  | .frameErrors => 10
  | .framesLost => 11
  | .glitch => 12
  | .invalidPulses => 13
  | .strayCash => 14
  | .logFullWaits => 15

/-- A counter risen by `n`: it stops at 65,535, where its saturation flag is set (R195). -/
def Counter.rise (c : Counter) (n : Nat) : Counter :=
  let v := min Config.counterLimit (c.value + n)
  { value := v, saturated := c.saturated || (decide (0 < n) && v == Config.counterLimit) }

/-- The rise takes the counter to 65,535 from below (R196). -/
def Counter.saturates (c : Counter) (n : Nat) : Bool :=
  decide (c.value < Config.counterLimit) && decide (Config.counterLimit ≤ c.value + n)

end Sys2Proof.Machine
end

