-- ==== Sys2Proof/Machine/Ops.lean ====
section
/-! DEFINITION. The operations the blocks share: reaching one of a bank, queueing an outcome (R178), ending a ticket (R175), a rise of a
counter (R195), a request of the memory mover (R189), a request to another block, reaching an order record (R1). -/

namespace Sys2Proof.Machine

/-! ## Banks -/

/-- One of two. -/
def Two.get {α : Type} (t : Two α) : Fin 2 → α
  | 0 => t.zero
  | 1 => t.one

/-- One of two replaced. -/
def Two.set {α : Type} (t : Two α) : Fin 2 → α → Two α
  | 0, a => { t with zero := a }
  | 1, a => { t with one := a }

/-- One of four. -/
def Four.get {α : Type} (t : Four α) : Fin 4 → α
  | 0 => t.zero
  | 1 => t.one
  | 2 => t.two
  | 3 => t.three

/-- One of four replaced. -/
def Four.set {α : Type} (t : Four α) : Fin 4 → α → Four α
  | 0, a => { t with zero := a }
  | 1, a => { t with one := a }
  | 2, a => { t with two := a }
  | 3, a => { t with three := a }

/-- The engine an engine number names, if one does. -/
def engineOf (n : Nat) : Option (Fin 2) :=
  match n with
  | 0 => some 0
  | 1 => some 1
  | _ => none

/-- The slot a slot number names, if one does. -/
def slotOf (n : Nat) : Option (Fin 4) :=
  match n with
  | 0 => some 0
  | 1 => some 1
  | 2 => some 2
  | 3 => some 3
  | _ => none

/-- Both engines, engine 0 first. -/
def engines : List (Fin 2) := [0, 1]

/-- The four slots, slot 0 first. -/
def slotNumbers : List (Fin 4) := [0, 1, 2, 3]

/-! ## Updates of one block -/

/-- The exchange controller changed. -/
def State.modExch (f : Exchange → Exchange) (s : State) : State := { s with exch := f s.exch }
/-- The memory mover changed. -/
def State.modMover (f : Mover → Mover) (s : State) : State := { s with mover := f s.mover }
/-- One slot changed. -/
def State.modSlot (n : Fin 4) (f : Slot → Slot) (s : State) : State :=
  { s with slots := s.slots.set n (f (s.slots.get n)) }
/-- The scheduler's state for one engine changed. -/
def State.modSched (e : Fin 2) (f : SchedEngine → SchedEngine) (s : State) : State :=
  { s with sched := s.sched.set e (f (s.sched.get e)) }
/-- One engine port changed. -/
def State.modPort (e : Fin 2) (f : Port → Port) (s : State) : State :=
  { s with ports := s.ports.set e (f (s.ports.get e)) }
/-- One renderer changed. -/
def State.modRend (e : Fin 2) (f : Renderer → Renderer) (s : State) : State :=
  { s with renderers := s.renderers.set e (f (s.renderers.get e)) }
/-- The tender link controller changed. -/
def State.modTender (f : Tender → Tender) (s : State) : State := { s with tender := f s.tender }
/-- The counter block changed. -/
def State.modCounters (f : CounterBlock → CounterBlock) (s : State) : State := { s with counters := f s.counters }

/-- The live settings and start-time settings held (R171). -/
def State.settings (s : State) : Settings := s.exch.settings

/-! ## Requests to other blocks -/

/-- A request joins the requests in course; those a request makes are taken up, in their order, when it has been applied. -/
def State.push (a : Act) (s : State) : State := { s with agenda := s.agenda ++ [⟨[], a⟩] }

/-- Several requests, in order. -/
def State.pushAll : List Act → State → State
  | [], s => s
  | a :: l, s => State.pushAll l (s.push a)

/-! ## Outcomes, tickets, attention, counters -/

/-- An outcome joins the pending outcome queue, with the clock as its timestamp (R178). Room is tested by the caller's step
(Machine/Agenda.lean). -/
def State.emit (p : Payload) (unit order seq : Nat) (s : State) : State :=
  s.modExch fun x =>
    { x with outcomes := x.outcomes ++ [{ payload := p, unit := unit, order := order, seq := seq, time := s.clock }] }

/-- The places of the pending outcome queue in use: outcomes, and places the ticket writer has taken (R175, R178). -/
def State.occupied (s : State) : Nat := s.exch.outcomes.length + s.exch.reservedPlaces

/-- A block ends a ticket: the ending joins the tail of the completion list (R175). -/
def State.endTicket (t : Ticket) (kind : Nat) (code : ResultCode) (detail : Nat) (s : State) : State :=
  s.modExch fun x => { x with completions := x.completions ++ [{ ticket := t, kind := kind, code := code, detail := detail }] }

/-- A cause is set (R182). -/
def State.attend (a : Attn) (s : State) : State := s.modExch fun x => x.latch a

/-- A cause is set when a condition holds. -/
def State.attendIf (c : Bool) (a : Attn) (s : State) : State := if c then s.attend a else s

/-- A counter rises by `n` (R195); the first to reach 65,535 in a report period sets the COUNTER cause (R196). -/
def State.count (id : CounterId) (n : Nat) (s : State) : State :=
  let old := s.counters.counters.getD id.place {}
  let risen := s.modCounters fun c => { c with counters := c.counters.set id.place (old.rise n) }
  if old.saturates n && !s.counters.periodMark then
    (risen.modCounters fun c => { c with periodMark := true }).attend .counter
  else risen

/-! ## The memory mover's requests -/

/-- The address EXCH_BASE holds (R169). -/
def State.exchBase (s : State) : Nat := s.exch.baseHigh.toNat * 4294967296 + s.exch.baseLow.toNat

/-- A client makes a request of the mover, behind the requests it has made (R189). -/
def State.request (tag : ReqTag) (address length : Nat) (write : Option (List Byte)) (s : State) : State :=
  s.modMover fun m =>
    { m with requests := m.requests ++ [{ tag := tag, address := address, length := length, write := write }] }

/-! ## Orders -/

/-- The live record that carries an order number (R1). -/
def State.findOrder (s : State) (n : Nat) : Option Order := s.orders.find? fun o => o.number == n

/-- The live record that carries a number changed. -/
def State.modOrder (n : Nat) (f : Order → Order) (s : State) : State :=
  { s with orders := s.orders.map fun o => if o.number == n then f o else o }

/-- The last-activity time of a live order set to the current time (R14). -/
def State.touch (n : Nat) (s : State) : State := s.modOrder n fun o => { o with lastActivity := s.clock }

/-- The last-activity time set at a take, which withdraws an abandon expiry of the order that waits for room (R14). -/
def State.touchAtTake (n : Nat) (s : State) : State :=
  { s.touch n with waiting := s.waiting.filter fun j => j.act != .cmd (.abandonExpiry n) }

/-- Open copies of an item: copies less assigned less withdrawn (R3). -/
def Item.openCopies (i : Item) : Nat := i.copies - i.assigned - i.withdrawn

/-- Copies still to be printed: copies less delivered less undeliverable (R3). -/
def Item.toPrint (i : Item) : Nat := i.copies - i.delivered - i.undeliverable

/-- Every item of the order is accounted (R3). -/
def Order.accounted (o : Order) : Bool := o.items.all fun i => i.toPrint == 0

/-- The funds of an order: the held amount, 0 while absent, plus the cash credited (R37). -/
def Order.funds (o : Order) : Nat := o.held.getD 0 + o.cash

/-- The funding test: the funds are at least the quote (R37). -/
def Order.isFunded (o : Order) : Bool :=
  match o.quote with
  | some q => decide (q ≤ o.funds)
  | none => false

/-- The card need: the quote less the cash credited, or 0 (R38). -/
def Order.cardNeed (o : Order) : Nat := o.quote.getD 0 - o.cash

/-- The cash need: the quote less the held amount, or 0 (R38). -/
def Order.cashNeed (o : Order) : Nat := o.quote.getD 0 - o.held.getD 0

/-- The i-th item changed. -/
def Order.modItem (i : Nat) (f : Item → Item) (o : Order) : Order := { o with items := o.items.modify i f }

/-- Order states as R1 lists them, with 0 for FREE (R203). -/
def OrderState.code : OrderState → Nat
  | .opened => 1 | .quoted => 2 | .funding => 3 | .funded => 4
  | .producing => 5 | .cancelling => 6 | .settling => 7 | .unresolved => 8

/-- Slot states as R46 lists them (R203). -/
def SlotState.code : SlotState → Nat
  | .empty => 0 | .settled => 1 | .identifying => 2 | .ready => 3 | .reading => 4 | .faulted => 5

/-! ## Ticket kinds (12.4) -/

/-- ORDER_OPEN. -/
def kindOrderOpen : Nat := 1
/-- ORDER_ADD_ITEMS. -/
def kindOrderAddItems : Nat := 2
/-- ORDER_QUOTE. -/
def kindOrderQuote : Nat := 3
/-- ORDER_CANCEL. -/
def kindOrderCancel : Nat := 4
/-- ORDER_DROP_ITEM. -/
def kindOrderDropItem : Nat := 5
/-- ORDER_RESOLVE. -/
def kindOrderResolve : Nat := 6
/-- PAY_CARD. -/
def kindPayCard : Nat := 7
/-- PAY_CASH_BIND. -/
def kindPayCashBind : Nat := 8
/-- PAY_CASH_UNBIND. -/
def kindPayCashUnbind : Nat := 9
/-- CARD_READ. -/
def kindCardRead : Nat := 10
/-- LOAD_PRICES. -/
def kindLoadPrices : Nat := 11
/-- LOAD_TONE. -/
def kindLoadTone : Nat := 12
/-- ENGINE_CONTROL. -/
def kindEngineControl : Nat := 13
/-- MEDIA_SET. -/
def kindMediaSet : Nat := 14
/-- ENGINE_PROOF. -/
def kindEngineProof : Nat := 15
/-- REFRESH_SETTINGS. -/
def kindRefreshSettings : Nat := 16
/-- READ_COUNTERS. -/
def kindReadCounters : Nat := 17
/-- LINK_TEST. -/
def kindLinkTest : Nat := 18

/-- The ticket that a header names. -/
def Header.ticket (h : Header) : Ticket := { slot := h.slot, seq := h.seq, order := h.order }

/-- A ticket has been handed on by TAKEN_WRITTEN and not yet applied (R174). -/
def State.handedOn (t : Ticket) (s : State) : Bool := s.exch.handed.any fun h => h.header.ticket == t

/-- A ticket's in-flight mark set at the take, or the ticket taken from those handed on: the take has set the mark then (R173). -/
def State.acceptOpen (t : Ticket) (s : State) : State :=
  if s.handedOn t then s.modExch fun x => { x with handed := x.handed.filter fun h => h.header.ticket != t }
  else s.modExch fun x => { x with inFlight := t.slot :: x.inFlight }

/-- A ticket reaches its block. When TAKEN_WRITTEN handed it on, it leaves the tickets handed on: the take has set its in-flight mark
and the last-activity time already (R173, R14). Otherwise the command stands for the take as well (log entry 3), and does both. An ORDER_OPEN leaves
the last-activity time of a live order of its number untouched (R14), and has `acceptOpen` alone. -/
def State.accept (t : Ticket) (s : State) : State := if s.handedOn t then s.acceptOpen t else (s.acceptOpen t).touchAtTake t.order

/-- The part states in which a read that has been taken is ended and not begun (R68). -/
def PartState.stopsReads : PartState → Bool
  | .stopping | .stopped | .halted => true
  | .reset | .starting | .running => false

/-- A ticket is left untaken: tickets are taken in RUNNING alone (R68, R155, R168, R176, R177, R186, R187), and never while the slot's in-flight mark
is set (R173). One whose take began before has been handed on (R177). -/
def State.leavesTicket (t : Ticket) (s : State) : Bool :=
  !s.handedOn t && (s.exch.part != .running || s.exch.inFlight.contains t.slot)

/-- A ticket's command: the ticket reaches its block, and the step follows, or it is left untaken. -/
def State.taking (t : Ticket) (step : State → State) (s : State) : State := if s.leavesTicket t then s else step (s.accept t)

/-- The time of a ticket's take: kept with the ticket handed on, or now when the command stands for the take. -/
def State.takeTime (t : Ticket) (s : State) : Nat :=
  match s.exch.handed.find? fun h => h.header.ticket == t with
  | some h => h.takenAt
  | none => s.clock

/-- A ticket of a kind that requires no order may name one (R173). An order number that no live record carries ends it NO_ORDER (R1), before its
own checks (log entry 48); else its kind's step is made. -/
def State.forLiveOrder (t : Ticket) (kind : Nat) (f : State → State) (s : State) : State :=
  if t.order != 0 && (s.findOrder t.order).isNone then s.endTicket t kind .noOrder 0 else f s

/-- The clock brought to a moment that an expiry commanded from outside stands for, when it has not been reached. The milliseconds passed over
bring no sample of the card-detect lines, which R47 samples once a millisecond, and none of the pulse line (DESIGN CHOICE, log entry 4). -/
def State.advanceTo (t : Nat) (s : State) : State :=
  if reached s.clock t then s else { s with clock := clockAt t }

end Sys2Proof.Machine
end

