-- ==== Sys2Proof/Machine/Notices.lean ====
section
/-! DEFINITION. What one block tells another without an outcome, and what one block asks of another: the notices to the cash acceptor
(R163), the hand-over to the tender link (R144), the questions about reads and runs of an order (R67, R83), the freeing of reads (R66). -/

namespace Sys2Proof.Machine

/-! ## Cash acceptor -/

/-- The conditions under which inhibit is RELEASED (R162). -/
def Cash.mayRelease (c : Cash) : Bool :=
  c.phase == .bound && !c.lineFault && decide (c.seen < c.need) && c.list.isEmpty

/-- Inhibit set by R162: it changes whenever one of its conditions changes. -/
def Cash.setInhibit (c : Cash) : Cash := { c with inhibit := !c.mayRelease }

/-- The cash acceptor interface changed, and inhibit set again by R162. -/
def State.modCash (f : Cash → Cash) (s : State) : State := { s with cash := (f s.cash).setInhibit }

/-- The settle window opens, once per binding (R163). -/
def State.openWindow (why : CashReason) (s : State) : State :=
  if s.cash.phase == .bound then
    s.modCash fun c =>
      { c with phase := .window, windowEnd := some (clockAt (s.clock + Config.settleWindow)), windowReason := why }
  else s

/-- The departure notice of an order that leaves FUNDING: applied while the order is BOUND (R163). -/
def State.departure (n : Nat) (funded : Bool) (s : State) : State :=
  if s.cash.phase == .bound && s.cash.bound == n then s.openWindow (if funded then .funded else .departed) else s

/-- The notice that a held amount has been written, with the new cash need (R163). -/
def State.holdNotice (n need : Nat) (s : State) : State :=
  if s.cash.phase == .bound && s.cash.bound == n then s.modCash fun c => { c with need := need } else s

/-! ## Tender link -/

/-- A request joins the tail of the request queue (R144). -/
def State.enqueueTender (t : TenderEntry) (s : State) : State :=
  s.modTender fun x => { x with requests := x.requests ++ [t] }

/-- A sequence leaves the reserved list when the order's unresolved request has been cleared (R150). -/
def State.unreserve (seq : Nat) (s : State) : State :=
  s.modTender fun x => { x with reservedSeqs := x.reservedSeqs.filter (· != seq) }

/-! ## Card intake -/

/-- The read in flight: the entry at the head of the queue of a READING slot (R46). -/
def Slot.inFlight (x : Slot) : Option ReadEntry := if x.state == .reading then x.queue.head? else none

/-- The entries that wait: behind the head of a READING slot, or all entries of a slot that is not READING (R46, R57). -/
def Slot.queued (x : Slot) : List ReadEntry := if x.state == .reading then x.queue.tail else x.queue

/-- A read naming the order is in flight at a slot (R67). -/
def State.readInFlight (s : State) (n : Nat) : Bool :=
  slotNumbers.any fun k => match (s.slots.get k).inFlight with
    | some r => r.order == n
    | none => false

/-- The reads naming an order that remain, queued or in flight, at all four slots (R67). -/
def State.readsOf (s : State) (n : Nat) : Nat :=
  (slotNumbers.map fun k => ((s.slots.get k).queue.filter fun r => r.order == n).length).sum

/-- A read entry that names a freed order runs on as a browsing read (R66). One that a cancel or a stop has named before keeps that end (R65, R68; DESIGN
CHOICE, log entry 69). -/
def ReadEntry.orphan (n : Nat) (r : ReadEntry) : ReadEntry :=
  if r.order == n then { r with order := 0, item := 255 } else r

/-- Every read entry naming a freed order becomes a browsing read (R66). -/
def Slot.orphan (n : Nat) (x : Slot) : Slot := { x with queue := x.queue.map (ReadEntry.orphan n) }

/-- The order table tells the card intake unit the number of a record made free (R66). -/
def State.orphanReads (n : Nat) (s : State) : State :=
  { s with slots :=
      ⟨s.slots.zero.orphan n, s.slots.one.orphan n, s.slots.two.orphan n, s.slots.three.orphan n⟩ }

/-- A list of reads ended with one code and their blocks done, oldest first (R63). -/
def State.endReads (code : ResultCode) : List ReadEntry → State → State
  | [], s => s
  | r :: l, s => State.endReads code l (s.endTicket r.ticket kindCardRead code r.blocksDone)

/-- One slot's part of a cancel: its queued reads of the order end CANCELLED and leave the queue; its read in flight is to end CANCELLED
at its next block boundary (R65). A read that a stop or halt has named before keeps the end STOPPED (DESIGN CHOICE, log entry 55). -/
def State.cancelReadsAt (n : Nat) (k : Fin 4) (s : State) : State :=
  let x := s.slots.get k
  let gone := x.queued.filter fun r => r.order == n
  let left := x.queued.filter fun r => r.order != n
  let head := match x.inFlight with
    | some r => [if r.order == n && r.endAs.isNone then { r with endAs := some .cancelled } else r]
    | none => []
  (s.modSlot k fun x => { x with queue := head ++ left }).endReads .cancelled gone

/-- A cancel reaches the card intake unit (R65). -/
def State.cancelReads (n : Nat) (s : State) : State := slotNumbers.foldl (fun s k => s.cancelReadsAt n k) s

/-! ## Print scheduling -/

/-- The runs of an order on an engine: queued, active, and in directory entries that are not void (R72, R83). -/
def SchedEngine.runsOf (x : SchedEngine) (n : Nat) : Nat :=
  (x.queue.filter fun r => r.order == n).length
    + (match x.active with | some r => if r.order == n then 1 else 0 | none => 0)
    + (x.stack.filter fun d => d.order == n && !d.void).length

/-- The runs of an order on both engines (R83). -/
def State.runsOf (s : State) (n : Nat) : Nat := s.sched.zero.runsOf n + s.sched.one.runsOf n

/-- A print of the order is under way on an engine (R115). -/
def State.printOf (s : State) (n : Nat) : Bool :=
  engines.any fun e => match (s.ports.get e).record with
    | some r => r.print.order == n
    | none => false

/-- The order leaves the awaiting list (R77), at once, also while a placement waits for room (R72; DESIGN CHOICE, log entry 58). -/
def State.dropAwaiting (n : Nat) (s : State) : State := { s with awaiting := s.awaiting.filter (· != n) }

end Sys2Proof.Machine
end

