-- ==== Sys2Proof/Machine/Bytes.lean ====
section
/-! DEFINITION. Byte order, and the cyclic redundancy check of the card bus and the tender link. -/

namespace Sys2Proof.Machine

/-- `width` bytes of `v`, least significant byte first (R203). -/
def leBytes : Nat → Nat → List Byte
  | 0, _ => []
  | w + 1, v => BitVec.ofNat 8 v :: leBytes w (v / 256)

/-- `width` bytes of `v`, most significant byte first (R204, R50). -/
def beBytes (w v : Nat) : List Byte := (leBytes w v).reverse

/-- The number stored least significant byte first (R203). -/
def ofLE : List Byte → Nat
  | [] => 0
  | b :: l => b.toNat + 256 * ofLE l

/-- The number sent most significant byte first (R204). -/
def ofBE (l : List Byte) : Nat := ofLE l.reverse

/-- The field of `width` bytes at offset `off` of a body or an image (12.3 to 12.5). -/
def field (l : List Byte) (off width : Nat) : Nat := ofLE ((l.drop off).take width)

/-- The byte at an offset. -/
def byteAt (l : List Byte) (off : Nat) : Nat := field l off 1

/-- A list of bytes brought to `n` bytes: bytes beyond them are ignored, missing ones are free values (log entry 7). -/
def fitFrom : Nat → Nat → List Byte → List Byte
  | 0, _, _ => []
  | n + 1, i, [] => Config.freeByte i :: fitFrom n (i + 1) []
  | n + 1, i, b :: l => b :: fitFrom n (i + 1) l

/-- `fitFrom` from place 0. -/
def fit (n : Nat) (l : List Byte) : List Byte := fitFrom n 0 l

/-- One bit of the check with polynomial x^16 + x^12 + x^5 + 1 (R50, R139). -/
def crcBit (c : Nat) : Nat :=
  if 32768 ≤ c then ((2 * c) % 65536) ^^^ 4129 else 2 * c

/-- `k` bits of the check. -/
def crcBits : Nat → Nat → Nat
  | 0, c => c
  | k + 1, c => crcBits k (crcBit c)

/-- One byte, most significant bit first (R50, R139). -/
def crcByte (c : Nat) (b : Byte) : Nat := crcBits 8 (c ^^^ (b.toNat * 256))

/-- The check over a list of bytes from an initial value. -/
def crcFrom : Nat → List Byte → Nat
  | c, [] => c
  | c, b :: l => crcFrom (crcByte c b) l

/-- The check of the card bus: initial value 0000h, no final inversion (R50). -/
def cardCheck (l : List Byte) : Nat := crcFrom 0 l

/-- The check of a tender frame: initial value FFFFh, no final inversion (R139). -/
def tenderCheck (l : List Byte) : Nat := crcFrom 65535 l

end Sys2Proof.Machine
end

