-- ==== Sys2Proof/Machine/Quote.lean ====
section
/-! DEFINITION. The arithmetic of the quote and settlement unit (Quotes and Settlement): exact whole numbers of cents. -/

namespace Sys2Proof.Machine

/-- The product quantity: the copies of all the order's items of a product (R33). -/
def productQuantity (items : List Item) (product : Nat) : Nat :=
  ((items.filter fun i => i.product == product).map Item.copies).sum

/-- The unit price of a product for a quantity: that of the highest tier whose minimum is at most the quantity (R33). -/
def Product.unitPrice (p : Product) (quantity : Nat) : Nat :=
  if p.min3 ≤ quantity then p.price3
  else if p.min2 ≤ quantity then p.price2
  else p.price1

/-- The tax on an amount at a rate of basis points, rounded to the nearest cent, a half cent up (R35, R40). -/
def taxOn (amount rate : Nat) : Nat := (amount * rate + 5000) / 10000

/-- The place of the first item whose product is not valid (R33). -/
def firstInvalid (products : List Product) : Nat → List Item → Option Nat
  | _, [] => none
  | k, i :: l => if (products.getD i.product {}).valid then firstInvalid products (k + 1) l else some k

/-- What the unit answers to the request for a quote (R33 to R35). -/
inductive QuoteAnswer where
  | refused (code : ResultCode) (detail : Nat)
  | priced (unitPrices : List Nat) (subtotal rate quote : Nat)
deriving DecidableEq, Repr

/-- The unit prices of the items, each from its product's tier for the whole order (R33, R34). -/
def unitPrices (products : List Product) (items : List Item) : List Nat :=
  items.map fun i => (products.getD i.product {}).unitPrice (productQuantity items i.product)

/-- The sum over the items of copies times unit price (R34). -/
def subtotalOf : List Item → List Nat → Nat
  | i :: l, u :: us => i.copies * u + subtotalOf l us
  | _, _ => 0

/-- The quote of a list of items (R33 to R35; "Quote refusals, taken together"). -/
def quoteOf (products : List Product) (rate : Nat) (items : List Item) : QuoteAnswer :=
  match firstInvalid products 0 items with
  | some k => .refused .noPrice k
  | none =>
    let us := unitPrices products items
    let subtotal := subtotalOf items us
    if Config.moneyLimit < subtotal then .refused .tooLarge (min subtotal Config.detailLimit)
    else
      let quote := subtotal + taxOn subtotal rate
      if Config.moneyLimit < quote then .refused .tooLarge quote
      else .priced us subtotal rate quote

/-- The delivered subtotal: delivered copies times the stored unit price (R40). -/
def deliveredSubtotal (items : List Item) : Nat :=
  (items.map fun i => i.delivered * i.unitPrice.getD 0).sum

/-- The figures of a settlement (R40, R41). -/
structure Figures where
  charge : Nat
  cashApplied : Nat
  cardPart : Nat
  capture : Nat
  shortfall : Nat
  surplus : Nat
deriving DecidableEq, Repr

/-- The settlement of an order as its record stands (R40, R41). -/
def settlementOf (o : Order) : Figures :=
  let sub := deliveredSubtotal o.items
  let charge := sub + taxOn sub (o.taxRate.getD 0)
  let cashApplied := min o.cash charge
  let cardPart := charge - cashApplied
  let capture := min cardPart (o.held.getD 0)
  { charge := charge
    cashApplied := cashApplied
    cardPart := cardPart
    capture := capture
    shortfall := cardPart - capture
    surplus := o.cash - cashApplied }

/-- The products an order uses, each once (R29). -/
def Order.productsUsed (o : Order) : List Nat := (o.items.map Item.product).dedup

/-- Use counts raised by 1 for each product of an order (R29). -/
def raiseUses (counts : List Nat) (used : List Nat) : List Nat :=
  used.foldl (fun c p => c.modify p (· + 1)) counts

/-- Use counts lowered by 1 for each product of an order (R29). -/
def lowerUses (counts : List Nat) (used : List Nat) : List Nat :=
  used.foldl (fun c p => c.modify p (· - 1)) counts

/-- The first check of R32 on an entry of the image: a valid byte other than 0 or 1, or a field of a valid entry out of range. -/
def productFieldsGood (validByte : Nat) (p : Product) : Bool :=
  decide (validByte ≤ 1) &&
    (!p.valid ||
      (decide (p.media ≤ 3) && decide (600 ≤ p.lines) && decide (p.lines ≤ 2400) && p.min1 == 1
        && decide (p.min1 < p.min2) && decide (p.min2 < p.min3)
        && decide (p.price1 ≤ Config.moneyLimit) && decide (p.price2 ≤ Config.moneyLimit)
        && decide (p.price3 ≤ Config.moneyLimit)))

/-- The second check of R32: a product in use must stay valid with its media kind and lines per print. -/
def productUseGood (uses : Nat) (live image : Product) : Bool :=
  uses == 0 || (image.valid && image.media == live.media && image.lines == live.lines)

/-- An entry of the product table image: 24 bytes (12.5), with its valid byte. The fields of an entry
that is not valid are kept as read; nothing examines them (R28). -/
def productEntry (image : List Byte) (k : Nat) : Nat × Product :=
  let e := (image.drop (24 * k)).take 24
  (byteAt e 0,
   { valid := byteAt e 0 == 1
     media := byteAt e 1
     lines := field e 2 2
     min1 := field e 4 2, price1 := field e 6 4
     min2 := field e 10 2, price2 := field e 12 4
     min3 := field e 16 2, price3 := field e 18 4 })

/-- The checks of R32, product by product from product 0 upward: the first product that fails, with its code. -/
def imageRefusal (live : List Product) (uses : List Nat) (image : List Byte) : Nat → Nat → Option (ResultCode × Nat)
  | 0, _ => none
  | left + 1, k =>
    let e := productEntry image k
    if !productFieldsGood e.1 e.2 then some (.badField, k)
    else if !productUseGood (uses.getD k 0) (live.getD k {}) e.2 then some (.inUse, k)
    else imageRefusal live uses image left (k + 1)

/-- The product table of an image (R32). -/
def imageProducts (image : List Byte) : List Product := (List.range 32).map fun k => (productEntry image k).2

/-- The media kind of a product (R30). -/
def State.mediaOf (s : State) (product : Nat) : Nat := (s.products.getD product {}).media

/-- The lines per print of a product (R30). -/
def State.linesOf (s : State) (product : Nat) : Nat := (s.products.getD product {}).lines

end Sys2Proof.Machine
end

