-- ==== Sys2Proof/Machine/Orders.lean ====
section
/-! DEFINITION. The order table (Orders): the changes of an order's state with their outcomes, funding, production, cancellation,
settlement, closing and unresolved payments. Each definition is applied as one request of R5; Machine/Agenda.lean holds it back while its
outcomes find no room. -/

namespace Sys2Proof.Machine

/-! ## A change of state (R6) -/

/-- The states in which awaiting engine may stay set (R2, R77). -/
def OrderState.keepsAwaiting : OrderState → Bool
  | .funded | .producing | .unresolved => true
  | .opened | .quoted | .funding | .cancelling | .settling => false

/-- The states whose entry sets the last-activity time (R14). -/
def OrderState.restartsTimer : OrderState → Bool
  | .quoted | .funding => true
  | .opened | .funded | .producing | .cancelling | .settling | .unresolved => false

/-- What entering a state asks of other blocks: on entry into FUNDED, and into PRODUCING from UNRESOLVED, the accounted test (R16), the
notice to blocked runs (R91) and the placements (R74). -/
def entryActs (n : Nat) (prev new : OrderState) (seq : Nat) : List Act :=
  if new == .funded || (new == .producing && prev == .unresolved) then
    [.accounted n seq] ++ (if prev == .unresolved then [.notice 0 n .funding, .notice 1 n .funding] else []) ++ [.place n false none]
  else []

/-- A live order moves to another state, with its ORDER STATE, or ORDER ABANDONED when the cause is ABANDON (R6, R14). Leaving FUNDING
sends the departure notice (R163). -/
def State.orderTo (n : Nat) (new : OrderState) (cause : OrderCause) (seq : Nat) (s : State) : State :=
  match s.findOrder n with
  | none => s
  | some o =>
    let s := s.modOrder n fun o =>
      { o with
        state := new
        lastActivity := if new.restartsTimer then s.clock else o.lastActivity
        awaitingEngine := o.awaitingEngine && new.keepsAwaiting }
    let s := if new.keepsAwaiting then s else s.dropAwaiting n
    let s := if o.state == .funding && new != .funding then s.departure n (new == .funded) else s
    let s := s.emit (.orderState (cause == .abandon) (some o.state) new cause) 0 n seq
    s.pushAll (entryActs n o.state new seq)

/-! ## Closing (R23) -/

/-- The close reason (R6). -/
def Order.closeReason (o : Order) : CloseReason :=
  match o.cancel with
  | some .cancel => .cancelled
  | some .abandon => .abandoned
  | none => .completed

/-- The sum of the items' spoiled counts (R6). -/
def Order.spoiledPrints (o : Order) : Nat := (o.items.map Item.spoiled).sum

/-- A record made free: its use counts fall (R29), its reads become browsing reads (R66), it leaves the awaiting list (R77). -/
def State.freeOrder (o : Order) (s : State) : State :=
  let s := { s with
    orders := s.orders.filter fun x => x.number != o.number
    useCounts := if o.quote.isSome then lowerUses s.useCounts o.productsUsed else s.useCounts }
  (s.orphanReads o.number).dropAwaiting o.number

/-- ORDER CLOSED with the figures as they stand, and the record made free, in one application (R23). -/
def State.closeNow (n seq : Nat) (s : State) : State :=
  match s.findOrder n with
  | none => s
  | some o =>
    (s.emit (.orderClosed o.closeReason (o.charge.getD 0) (o.captured.getD 0) (o.surplus.getD 0) (o.shortfall.getD 0)
      o.spoiledPrints) 0 n seq).freeOrder o

/-! ## Settlement (R22) -/

/-- A request for the terminal recorded at the order and handed to the tender link controller, which applies it in its turn (R22, R138, R144). -/
def State.recordRequest (n : Nat) (r : OrderRequest) (ticket : Option Ticket) (s : State) : State :=
  match s.findOrder n with
  | none => s
  | some o =>
    (s.modOrder n fun o => { o with request := some r }).push
      (.handTender { kind := r.kind, order := n, amount := r.amount, reference := o.holdRef.getD 0, ticket := ticket })

/-- The settlement figures written, and one of three courses chosen (R22). -/
def State.chooseCourse (n seq : Nat) (o : Order) (s : State) : State :=
  let f := settlementOf o
  let s := s.modOrder n fun x =>
    { x with charge := some f.charge, surplus := some f.surplus, shortfall := some f.shortfall }
  match o.held with
  | some _ =>
    if 0 < f.capture then
      s.recordRequest n { kind := .capture, amount := f.capture, cardPart := f.cardPart } none
    else s.recordRequest n { kind := .release, amount := 0 } none
  | none => (s.modOrder n fun x => { x with captured := some 0 }).push (.closeOrder n seq)

/-- Entry to SETTLING (R22), with the settlement notice when it comes from FUNDED or PRODUCING (R93). -/
def State.settleOrder (n : Nat) (cause : OrderCause) (seq : Nat) (s : State) : State :=
  match s.findOrder n with
  | none => s
  | some o =>
    let s := s.orderTo n .settling cause seq
    let s := if o.state == .funded || o.state == .producing then
        s.pushAll [.schedEnd 0 n .completed, .schedEnd 1 n .completed]
      else s
    s.chooseCourse n seq o

/-! ## The tests of R13, R16 and R21 -/

/-- The accounted test: a FUNDED or PRODUCING order with every item accounted goes to SETTLING (R16). -/
def State.accountedTest (n seq : Nat) (s : State) : State :=
  match s.findOrder n with
  | none => s
  | some o =>
    if (o.state == .funded || o.state == .producing) && o.accounted then s.settleOrder n .accounted seq else s

/-- The conditions under which a CANCELLING order is quiet (R21). -/
def State.isQuiet (s : State) (o : Order) : Bool :=
  o.request.isNone && !s.printOf o.number && s.runsOf o.number == 0 && s.readsOf o.number == 0 && !o.cashBound

/-- The quiet test: a CANCELLING order whose conditions all hold goes to SETTLING (R21). -/
def State.quietTest (n seq : Nat) (s : State) : State :=
  match s.findOrder n with
  | none => s
  | some o => if o.state == .cancelling && s.isQuiet o then s.settleOrder n .quiet seq else s

/-- The funding test: a FUNDING order whose funds are at least its quote goes to FUNDED (R13, R37). -/
def State.fundingTest (n seq : Nat) (s : State) : State :=
  match s.findOrder n with
  | none => s
  | some o => if o.state == .funding && o.isFunded then s.orderTo n .funded .funds seq else s

/-- The return test: a FUNDING order with nothing held, requested, bound or credited goes back to QUOTED (R13). -/
def State.returnTest (n : Nat) (cause : OrderCause) (seq : Nat) (s : State) : State :=
  match s.findOrder n with
  | none => s
  | some o =>
    if o.state == .funding && o.held.isNone && o.request.isNone && !o.cashBound && o.cash == 0 then
      s.orderTo n .quoted cause seq
    else s

/-! ## Opening, adding and quoting (R7 to R9) -/

/-- ORDER_OPEN at the order table (R7). -/
def State.openOrder (t : Ticket) (station cls profile finish takenAt : Nat) (s : State) : State :=
  if 3 < station || 1 < cls || 3 < profile || 1 < finish || t.order == 0 then
    s.endTicket t kindOrderOpen .badField 0
  else if (s.findOrder t.order).isSome then s.endTicket t kindOrderOpen .dupOrder 0
  else if Config.orderRecords ≤ s.orders.length then s.endTicket t kindOrderOpen .tableFull 0
  else
    let o : Order :=
      { number := t.order, station := station, cls := if cls == 0 then .standard else .express, profile := profile,
        finish := if finish == 0 then .glossy else .matte, lastActivity := takenAt }
    let s := { s with orders := s.orders ++ [o] }
    (s.emit (.orderState false none .opened .ticket) 0 t.order t.seq).endTicket t kindOrderOpen .ok 0

/-- An item description that R8 refuses. -/
def ItemDesc.bad (d : ItemDesc) : Bool :=
  decide (31 < d.product) || d.copies == 0 || decide (1 < d.preStaged)
    || decide (Config.addressLimit < d.address + Config.pictureBytes)

/-- The item an accepted description enters (R8). -/
def ItemDesc.item (d : ItemDesc) : Item :=
  { product := d.product, address := d.address, copies := min d.copies Config.maxCopies,
    staging := if d.preStaged == 1 then .staged else .unstaged }

/-- ORDER_ADD_ITEMS (R8). The position of an offending item counts from 1, so that 0 says that the count is at fault. The count is tested first: when
both an item and a count are at fault, the detail is 0 (DESIGN CHOICE, log entry 46). -/
def State.addItems (t : Ticket) (items : List ItemDesc) (s : State) : State :=
  match s.findOrder t.order with
  | none => s.endTicket t kindOrderAddItems .noOrder 0
  | some o =>
    if o.state != .opened then s.endTicket t kindOrderAddItems .wrongState 0
    else if items.isEmpty || 8 < items.length || Config.maxItems < o.items.length + items.length then
      s.endTicket t kindOrderAddItems .badField 0
    else
      match items.findIdx? ItemDesc.bad with
      | some k => s.endTicket t kindOrderAddItems .badField (k + 1)
      | none =>
        let clamped := items.any fun d => decide (Config.maxCopies < d.copies)
        let s := s.modOrder t.order fun o => { o with items := o.items ++ items.map ItemDesc.item }
        s.endTicket t kindOrderAddItems .ok (o.items.length + items.length + if clamped then clampedFlag else 0)

/-- Unit prices entered in the items (R9). -/
def priceItems : List Item → List Nat → List Item
  | i :: l, u :: us => { i with unitPrice := some u } :: priceItems l us
  | l, _ => l

/-- ORDER_QUOTE (R9, R33 to R35). When the quote is 0 the ticket ends after the change to FUNDED. -/
def State.quoteOrder (t : Ticket) (s : State) : State :=
  match s.findOrder t.order with
  | none => s.endTicket t kindOrderQuote .noOrder 0
  | some o =>
    if o.state != .opened then s.endTicket t kindOrderQuote .wrongState 0
    else if o.items.isEmpty then s.endTicket t kindOrderQuote .badField 0
    else
      match quoteOf s.products s.settings.taxRate o.items with
      | .refused code detail => s.endTicket t kindOrderQuote code detail
      | .priced us subtotal rate quote =>
        let s := { s with useCounts := raiseUses s.useCounts o.productsUsed }
        let s := s.modOrder t.order fun o =>
          { o with items := priceItems o.items us, subtotal := some subtotal, taxRate := some rate, quote := some quote }
        let s := s.orderTo t.order .quoted .ticket t.seq
        if quote == 0 then s.push (.zeroQuoteFunded t.order t) else s.endTicket t kindOrderQuote .ok quote

/-- The second change of a quote of 0: QUOTED to FUNDED with cause FUNDS, after which the ticket ends (R9). -/
def State.zeroQuoteFunded (n : Nat) (t : Ticket) (s : State) : State :=
  (s.orderTo n .funded .funds t.seq).endTicket t kindOrderQuote .ok 0

/-! ## Staging (R10) -/

/-- A staging report moves the mark of an item. -/
def Staging.after (m : Staging) (r : StagingReport) : Staging :=
  match r, m with
  | .start, .unstaged => .staging
  | .start, m => m
  | .success, _ => .staged
  | .failure, .staging => .unstaged
  | .failure, m => m

/-- A staging report of the card intake unit; a move to STAGED is made known to the scheduler (R10, R91). -/
def State.stagingReport (n item : Nat) (r : StagingReport) (s : State) : State :=
  match s.findOrder n with
  | none => s
  | some o =>
    match o.items[item]? with
    | none => s
    | some i =>
      let new := i.staging.after r
      let s := s.modOrder n fun o => o.modItem item fun i => { i with staging := new }
      if new == .staged && i.staging != .staged then s.pushAll [.notice 0 n (.item item), .notice 1 n (.item item)]
      else s

/-! ## Payment tickets (R11) -/

/-- The states in which an order may raise funds (R11). -/
def OrderState.takesPayment : OrderState → Bool
  | .quoted | .funding => true
  | .opened | .funded | .producing | .cancelling | .settling | .unresolved => false

/-- The acceptance of PAY_CARD (R11). -/
def Order.acceptsCard (o : Order) : Bool := o.state.takesPayment && o.held.isNone && o.request.isNone

/-- An accepted PAY_CARD or PAY_CASH_BIND moves a QUOTED order to FUNDING and sets the last-activity time (R11). -/
def State.raiseFunds (n seq : Nat) (s : State) : State :=
  match s.findOrder n with
  | none => s
  | some o => if o.state == .quoted then (s.touch n).orderTo n .funding .ticket seq else s.touch n

/-- PAY_CARD (R153): its checks, and the HOLD for the card need (R38). -/
def State.payCard (t : Ticket) (s : State) : State :=
  match s.findOrder t.order with
  | none => s.endTicket t kindPayCard .noOrder 0
  | some o =>
    if s.tender.loopOn then s.endTicket t kindPayCard .testActive 0
    else if !o.acceptsCard then s.endTicket t kindPayCard .wrongState o.state.code
    else
      (s.recordRequest t.order { kind := .hold, amount := o.cardNeed } (some t)).raiseFunds t.order t.seq

/-! ## Answers of the terminal (R12, R23, R24) -/

/-- The order that awaits the answer to a request sent with a tender sequence. -/
def State.awaitsSeq (s : State) (n seq : Nat) : Option Order :=
  match s.findOrder n with
  | some o =>
    match o.request with
    | some r => if r.seq == some seq then some o else none
    | none => none
  | none => none

/-- The end of a PAY_CARD ticket, when the entry bears one (R153). -/
def State.endPay (t : Option Ticket) (code : ResultCode) (detail : Nat) (s : State) : State :=
  match t with
  | some t => s.endTicket t kindPayCard code detail
  | none => s

/-- The answer to a HOLD (R12): `approved` is the reference and the held amount, `whole` that it is the full amount. An order that no longer
awaits it is left as it is, and the ticket ends by the answer (log entry 17). -/
def State.holdAnswer (n seq : Nat) (ticket : Option Ticket) (approved : Option (Nat × Nat)) (whole : Bool) (s : State) : State :=
  let code : ResultCode := match approved with
    | some _ => if whole then .approved else .partialHold
    | none => .declined
  let amount := match approved with
    | some (_, a) => a
    | none => 0
  match s.awaitsSeq n seq with
  | none => s.endPay ticket code amount
  | some o =>
    let s := s.modOrder n fun o =>
      match approved with
      | some (r, a) => { o with request := none, held := some a, holdRef := some r }
      | none => { o with request := none }
    let s := if approved.isSome then s.holdNotice n (o.quote.getD 0 - amount) else s
    if o.cancel.isSome then (s.endPay ticket .cancelled amount).push (.quiet n 0)
    else
      let s := s.endPay ticket code amount
      if approved.isSome then s.fundingTest n 0 else s.returnTest n .tender 0

/-- A request of the order becomes unresolved (R24). The order goes to UNRESOLVED with cause TENDER. `reserved`: the request's sequence has been put on
the reserved list (R150). -/
def State.orderUnresolved (n seq : Nat) (ticket : Option Ticket) (reserved : Bool) (s : State) : State :=
  let s := s.endPay ticket .unresolved seq
  match s.awaitsSeq n seq with
  | none => s
  | some o =>
    match o.request with
    | none => s
    | some r =>
      (s.modOrder n fun o =>
        { o with
          request := none
          unresolved :=
            some { kind := r.kind, amount := r.amount, seq := seq, cardPart := r.cardPart, prior := o.state, reserved := reserved } }).orderTo
        n .unresolved .tender 0

/-- The answer to a CAPTURE (R23): DONE writes captured and closes the order, REFUSED makes it unresolved, with its sequence not reserved (R150). -/
def State.captureAnswer (n seq : Nat) (done : Bool) (s : State) : State :=
  match s.awaitsSeq n seq with
  | none => s
  | some o =>
    if done then
      (s.modOrder n fun x => { x with request := none, captured := o.request.map OrderRequest.amount }).closeNow n 0
    else s.orderUnresolved n seq none false

/-- The answer to a RELEASE closes the order (R23). -/
def State.releaseAnswer (n seq : Nat) (s : State) : State :=
  match s.awaitsSeq n seq with
  | none => s
  | some _ => (s.modOrder n fun x => { x with request := none }).closeNow n 0

/-! ## Reconciled answers (R25, R26) -/

/-- The answers that resolve an unresolved request. -/
inductive Reconciled where
  | holdNone
  | holdExists (reference amount : Nat)
  | captureDone (amount : Nat)
  | captureNone
  | releaseDone
deriving DecidableEq, Repr

/-- The answer that an ORDER_RESOLVE's code names (12.4). -/
def reconciledOf (answer reference amount : Nat) : Option Reconciled :=
  match answer with
  | 1 => some .holdNone
  | 2 => some (.holdExists reference amount)
  | 3 => some (.captureDone amount)
  | 4 => some .captureNone
  | 5 => some .releaseDone
  | _ => none

/-- The answer suits the unresolved request, and its amount is in range (R26). -/
def Reconciled.suits (a : Reconciled) (u : UnresolvedRequest) : Bool :=
  match a, u.kind with
  | .holdNone, .hold => true
  | .holdExists _ amount, .hold => decide (0 < amount) && decide (amount ≤ u.amount)
  | .captureDone amount, .capture => decide (amount ≤ u.amount)
  | .captureNone, .capture => true
  | .releaseDone, .release => true
  | _, _ => false

/-- Where an order goes when its HOLD is resolved, before the tests of that state (R26). `funded`: funds reach the quote with the hold
now held. -/
def Order.afterHold (o : Order) (u : UnresolvedRequest) (funded : Bool) : OrderState :=
  if o.cancel.isSome then .cancelling
  else if u.prior == .funded then .funded
  else if u.prior == .producing then .producing
  else if funded then .funded
  else .funding

/-- The move to the state a resolved HOLD leads to, and the tests of that state (R26). -/
def State.resumeOrder (n : Nat) (new : OrderState) (cause : OrderCause) (seq : Nat) (s : State) : State :=
  let s := s.orderTo n new cause seq
  if new == .cancelling then s.push (.quiet n seq)
  else if new == .funding then s.pushAll [.fundsTest n seq, .returnTest n cause seq]
  else s

/-- An accepted answer applied to the order (R26's table). -/
def State.applyReconciled (n : Nat) (o : Order) (u : UnresolvedRequest) (a : Reconciled) (cause : OrderCause) (seq : Nat)
    (s : State) : State :=
  let s := s.modOrder n fun x => { x with unresolved := none }
  match a with
  | .holdNone => s.resumeOrder n (o.afterHold u false) cause seq
  | .holdExists r amount =>
    let s := s.modOrder n fun x => { x with held := some amount, holdRef := some r }
    let s := s.holdNotice n (o.quote.getD 0 - amount)
    s.resumeOrder n (o.afterHold u (decide (o.quote.getD 0 ≤ amount + o.cash))) cause seq
  | .captureDone amount =>
    (s.modOrder n fun x => { x with captured := some amount, shortfall := some (u.cardPart - amount) }).closeNow n seq
  | .captureNone =>
    let s := s.modOrder n fun x => { x with captured := some 0, shortfall := some u.cardPart }
    (s.orderTo n .settling cause seq).recordRequest n { kind := .release, amount := 0 } none
  | .releaseDone => s.closeNow n seq

/-- ORDER_RESOLVE (R26). The sequence of the request it clears leaves the reserved list when it stands there (R150). -/
def State.resolveOrder (t : Ticket) (answer reference amount : Nat) (s : State) : State :=
  match s.findOrder t.order with
  | none => s.endTicket t kindOrderResolve .noOrder 0
  | some o =>
    match o.unresolved with
    | none => s.endTicket t kindOrderResolve .wrongState 0
    | some u =>
      if o.state != .unresolved then s.endTicket t kindOrderResolve .wrongState 0
      else
        match reconciledOf answer reference amount with
        | none => s.endTicket t kindOrderResolve .badField 0
        | some a =>
          if a.suits u then
            let s := if u.reserved then s.unreserve u.seq else s
            (s.endTicket t kindOrderResolve .ok 0).applyReconciled t.order o u a .ticket t.seq
          else s.endTicket t kindOrderResolve .badField 0

/-- What the order table answers to a late result offered for a reserved sequence (R151, R25). -/
inductive LateAnswer where
  | taken (order : Nat) | noChange | notAwaited
deriving DecidableEq, Repr

/-- The reconciled answer a late result is taken as (R25). A refused capture is no change. -/
def TenderResult.takenAs (r : TenderResult) (u : UnresolvedRequest) : Option Reconciled :=
  match r with
  | .holdApproved ref amount => some (.holdExists ref amount)
  | .holdDeclined => some .holdNone
  | .captureDone => some (.captureDone u.amount)
  | .captureRefused => none
  | .released => some .releaseDone

/-- A result suits a request of its kind (R147, R149). -/
def TenderResult.suitsKind : TenderResult → RequestKind → Bool
  | .holdApproved _ _, .hold => true
  | .holdDeclined, .hold => true
  | .captureDone, .capture => true
  | .captureRefused, .capture => true
  | .released, .release => true
  | .released, .orphan => true
  | _, _ => false

/-- The UNRESOLVED order whose unresolved request carries a sequence and suits a result (R151). It is the one whose request had the sequence reserved:
an order left UNRESOLVED by a REFUSED capture, whose sequence another request may have taken since, is passed over (DESIGN CHOICE, log entry 92). -/
def State.unresolvedBy (s : State) (seq : Nat) (r : TenderResult) : Option (Order × UnresolvedRequest) :=
  s.orders.findSome? fun o =>
    match o.unresolved with
    | some u => if o.state == .unresolved && u.reserved && u.seq == seq && r.suitsKind u.kind then some (o, u) else none
    | none => none

/-- A late result offered to the order table (R25). -/
def State.offerLate (seq : Nat) (r : TenderResult) (s : State) : LateAnswer × State :=
  match s.unresolvedBy seq r with
  | none => (.notAwaited, s)
  | some (o, u) =>
    match r.takenAs u with
    | none => (.noChange, s)
    | some a =>
      if a.suits u then (.taken o.number, s.applyReconciled o.number o u a .tender 0) else (.noChange, s)

/-! ## Cash (R13, R161, R165, R167) -/

/-- A credit of pulses at the order table: refused when the order is not live or not bound, else the pulses credited within the limit and
the changed state (R13, R165, R42). The funding test follows (Machine/Cash.lean). -/
def State.creditOrder (n count value : Nat) (s : State) : Option (Nat × State) :=
  match s.findOrder n with
  | none => none
  | some o =>
    if !o.cashBound then none
    else
      let k := min count ((Config.cashLimit - o.cash) / value)
      let s := s.modOrder n fun o =>
        { o with
          cash := o.cash + k * value
          surplus := o.surplus.map (· + k * value)
          lastActivity := s.clock }
      some (k, s)

/-- The acceptance of PAY_CASH_BIND: cash bound is set (R11). -/
def State.acceptBind (n seq : Nat) (s : State) : State :=
  (s.modOrder n fun o => { o with cashBound := true }).raiseFunds n seq

/-- Cash bound is cleared at the end of the window, with the return test and the quiet test (R13, R21, R167). -/
def State.clearBound (n : Nat) (s : State) : State :=
  match s.findOrder n with
  | none => s
  | some o =>
    if o.cashBound then
      ((s.modOrder n fun o => { o with cashBound := false }).returnTest n .funds 0).quietTest n 0
    else s

/-! ## Production (R15, R16, R18) -/

/-- The answer to a request for a print's grant, from the record as it stands (R15, R39). When both an item's staging and its open copies
fail, NO_COPY is named (log entry 18). -/
def Order.grantAnswer (o : Order) (item : Nat) (reprint : Bool) : GrantAnswer :=
  if !(o.state == .funded || o.state == .producing) || !o.isFunded then .notFunded
  else
    match o.items[item]? with
    | none => .noCopy
    | some i =>
      if !reprint && i.openCopies == 0 then .noCopy
      else if i.staging != .staged then .notStaged
      else .granted

/-- A print of a new copy starts: an open copy becomes an assigned one (R3, R15). -/
def Item.assign (i : Item) : Item := if i.openCopies == 0 then i else { i with assigned := i.assigned + 1 }

/-- The grant at the order table: a new copy raises assigned, and the first grant moves FUNDED to PRODUCING (R15). -/
def State.grantPrint (e : Fin 2) (p : Print) (s : State) : State :=
  match s.findOrder p.order with
  | none => s.push (.grantAnswer e p .noOrder)
  | some o =>
    let a := o.grantAnswer p.item p.reprint
    if a == .granted then
      let s := if p.reprint then s
        else s.modOrder p.order fun o => o.modItem p.item Item.assign
      let s := if o.state == .funded then s.orderTo p.order .producing .print 0 else s
      s.push (.grantAnswer e p a)
    else s.push (.grantAnswer e p a)

/-- An assigned copy is neither delivered nor undeliverable yet (R3). -/
def Item.hasPrinting (i : Item) : Bool := decide (i.delivered + i.undeliverable < i.assigned + i.withdrawn)

/-- The counts of an item after the report of a print's end (R16). A report that would break the relations of R3 changes nothing. -/
def Item.afterPrint (i : Item) (answer : Option CopyAnswer) : Item :=
  match answer with
  | none => if i.hasPrinting then { i with delivered := i.delivered + 1 } else i
  | some .reprint => { i with spoiled := i.spoiled + 1 }
  | some _ => if i.hasPrinting then { i with spoiled := i.spoiled + 1, undeliverable := i.undeliverable + 1 } else i

/-- The report of a print's end (R16), with the accounted test and, for a CANCELLING order, the quiet test (R21). -/
def State.printReport (n item : Nat) (answer : Option CopyAnswer) (s : State) : State :=
  ((s.modOrder n fun o => o.modItem item fun i => i.afterPrint answer).accountedTest n 0).push (.quiet n 0)

/-- The reprint-given-up report: the out-of-reprints part of R16 alone (R83). -/
def State.reprintGivenUp (n item : Nat) (s : State) : State :=
  ((s.modOrder n fun o => o.modItem item fun i =>
      if i.hasPrinting then { i with undeliverable := i.undeliverable + 1 } else i).accountedTest n 0).push (.quiet n 0)

/-- An item whose open copies are withdrawn (R18, R20). -/
def Item.withdrawOpen (i : Item) : Item :=
  { i with withdrawn := i.withdrawn + i.openCopies, undeliverable := i.undeliverable + i.openCopies }

/-- The states in which ORDER_DROP_ITEM is accepted (R18). -/
def OrderState.allowsDrop : OrderState → Bool
  | .quoted | .funding | .funded | .producing | .unresolved => true
  | .opened | .cancelling | .settling => false

/-- ORDER_DROP_ITEM (R18). -/
def State.dropItem (t : Ticket) (item : Nat) (s : State) : State :=
  match s.findOrder t.order with
  | none => s.endTicket t kindOrderDropItem .noOrder 0
  | some o =>
    if !o.state.allowsDrop then s.endTicket t kindOrderDropItem .wrongState 0
    else
      match o.items[item]? with
      | none => s.endTicket t kindOrderDropItem .badField 0
      | some i =>
        ((s.modOrder t.order fun o => o.modItem item Item.withdrawOpen).accountedTest t.order t.seq).endTicket
          t kindOrderDropItem .ok i.openCopies

/-! ## Cancellation (R19, R20, R14) -/

/-- The effects of a cancel on the record (R20). -/
def Order.cancelled (o : Order) (cause : CancelCause) : Order :=
  { o with cancel := some cause, items := o.items.map Item.withdrawOpen, awaitingEngine := false }

/-- An order in OPEN or QUOTED that a cancel makes free at once (R19). -/
def State.freedByCancel (s : State) (o : Order) : Bool :=
  (o.state == .opened || o.state == .quoted) && o.cash == 0 && !o.cashBound && !s.readInFlight o.number

/-- A cancel or an abandon expiry of an order in OPEN, QUOTED, FUNDING, FUNDED, PRODUCING or UNRESOLVED, with the effects of R20 on the work of
other blocks (R19, R65, R92, R154). -/
def State.cancelOrder (o : Order) (cause : CancelCause) (seq : Nat) (s : State) : State :=
  let n := o.number
  let free := s.freedByCancel o
  let s := ((s.modOrder n fun o => o.cancelled cause).dropAwaiting n).cancelReads n
  if free then s.closeNow n seq
  else
    let s := if o.state == .unresolved then s
      else s.orderTo n .cancelling (if cause == .abandon then .abandon else .ticket) seq
    s.pushAll [.withdrawHold n, .schedEnd 0 n .cancelled, .schedEnd 1 n .cancelled, .quiet n seq]

/-- ORDER_CANCEL (R19). -/
def State.cancelTicket (t : Ticket) (s : State) : State :=
  match s.findOrder t.order with
  | none => s.endTicket t kindOrderCancel .noOrder 0
  | some o =>
    match o.state with
    | .cancelling => s.endTicket t kindOrderCancel .ok alreadyFlag
    | .settling => s.endTicket t kindOrderCancel .wrongState 0
    | _ => (s.cancelOrder o .cancel t.seq).endTicket t kindOrderCancel .ok 0

/-- The moment an order's abandon timer expires; none while it does not run (R14). -/
def State.abandonAt (s : State) (o : Order) : Option Nat :=
  if (o.state == .quoted || o.state == .funding) && s.settings.abandon != 0 then
    some (o.lastActivity + 1000 * s.settings.abandon)
  else none

/-- The abandon timer of an order expires: the order is cancelled with cause ABANDON (R14). An expiry that a later take has put off is
withdrawn. One that waits for room is tested again when it is applied, so a REFRESH_SETTINGS that has lengthened the timeout meanwhile or turned it off
withdraws it too (DESIGN CHOICE, log entry 72). -/
def State.abandonExpiry (n : Nat) (s : State) : State :=
  match s.findOrder n with
  | none => s
  | some o =>
    match s.abandonAt o with
    | none => s
    | some t => if reached s.clock t then s.cancelOrder o .abandon 0 else s

end Sys2Proof.Machine
end

