-- ==== Sys2Proof/Machine/Cash.lean ====
section
/-! DEFINITION. The cash acceptor interface (Cash Acceptor): pulses, the line fault, the waiting list, binding and the settle window. -/

namespace Sys2Proof.Machine

/-! ## The waiting list -/

/-- A pulse joins the tail of the waiting list (R164). One commanded in the very millisecond of the window end, after the window's end event has joined,
stands behind that event (DESIGN CHOICE, log entry 78). -/
def joinCredit (dest : Option Nat) : List CashItem → List CashItem
  | [] => [.credit dest 1]
  | [.credit d k] => if d == dest then [.credit d (k + 1)] else [.credit d k, .credit dest 1]
  | i :: l => i :: joinCredit dest l

/-- The head of the waiting list leaves it (R157). -/
def State.popCash (s : State) : State := s.modCash fun c => { c with list := c.list.tail }

/-- The last part of an application: when it has emptied the waiting list, the PAY_CASH_BIND tickets that waited for that are checked, oldest first,
whatever joins the list while a check waits for room (R161). What the application asks of the order table comes before (R5). -/
def State.checkBinds (s : State) : State :=
  if s.cash.list.isEmpty then
    { s with cash := { s.cash with bindWaiting := [] } }.pushAll (s.cash.bindWaiting.map fun t => .cmd (.payCashBind t))
  else s

/-- A CASH outcome, with the inhibit output as it stands (R158). -/
def State.emitCash (event : CashEvent) (order count amount credited : Nat) (reason : Option CashReason) (seq : Nat) (s : State) : State :=
  s.emit (.cash event count amount credited reason s.cash.inhibit) 0 order seq

/-- Stray pulses: their outcome, and the stray cash counter (R166). -/
def State.strayCash (count : Nat) (why : CashReason) (s : State) : State :=
  (s.emitCash .stray 0 count (count * s.cash.pulseValue) 0 (some why) 0).count .strayCash count

/-! ## Pulses and the line fault (R159, R160, R164) -/

/-- The destination of a pulse that completes now (R164). -/
def State.pulseDest (s : State) : Option Nat :=
  let c := s.cash
  match c.phase with
  | .bound => some c.bound
  | .window => if reached (c.windowEnd.getD 0) s.clock then some c.bound else none
  | .none => none

/-- A completed low run is classed by its length (R159). -/
def State.pulseCompleted (length : Nat) (s : State) : State :=
  if !s.cash.sampling || s.cash.lineFault then s
  else
    let s := s.modCash fun c => { c with lowRun := 0, lineHigh := true }
    if length == 0 || 499 < length then s
    else if length < 20 then s.count .glitch 1
    else if length ≤ 150 then s.modCash fun c => { c with list := joinCredit s.pulseDest c.list }
    else s.count .invalidPulses 1

/-- The 500th low sample of a run (R160). -/
def State.lineFaultSet (s : State) : State :=
  if s.cash.sampling && !s.cash.lineFault then
    s.modCash fun c => { c with lineFault := true, lowRun := 500, highRun := 0, lineHigh := false, list := c.list ++ [.fault] }
  else s

/-- The 1,000th high sample since the fault (R160). -/
def State.lineFaultCleared (s : State) : State :=
  if s.cash.lineFault then
    s.modCash fun c => { c with lineFault := false, lowRun := 0, highRun := 0, lineHigh := true, list := c.list ++ [.faultCleared] }
  else s

/-- A FAULT or FAULT_CLEARED event at the head of the list (R160). -/
def State.cashFaultApplied (s : State) : State :=
  match s.cash.list with
  | .fault :: _ => ((s.modCash fun c => { c with faultFlag := true }).popCash.emitCash .fault 0 0 0 0 (some .acceptorFault) 0).checkBinds
  | .faultCleared :: _ => ((s.modCash fun c => { c with faultFlag := false }).popCash.emitCash .faultCleared 0 0 0 0 none 0).checkBinds
  | _ => s

/-! ## Binding (R161) -/

/-- The order of a BOUND event that stands in the list (R161). -/
def Cash.bindListed (c : Cash) : Option Nat :=
  c.list.findSome? fun i => match i with
    | .bind t _ _ => some t.order
    | _ => none

/-- The checks of a PAY_CASH_BIND, and its acceptance (R161, R11). -/
def State.checkBind (t : Ticket) (s : State) : State :=
  match s.findOrder t.order with
  | none => s.endTicket t kindPayCashBind .noOrder 0
  | some o =>
    if s.cash.phase == .bound && s.cash.bound == t.order then s.endTicket t kindPayCashBind .ok alreadyFlag
    else if s.cash.phase != .none then s.endTicket t kindPayCashBind .busy s.cash.bound
    else
      match s.cash.bindListed with
      | some n => s.endTicket t kindPayCashBind .busy n
      | none =>
        if o.state.takesPayment then
          (s.acceptBind t.order t.seq).modCash fun c => { c with list := c.list ++ [.bind t o.cash o.cashNeed] }
        else s.endTicket t kindPayCashBind .wrongState o.state.code

/-- The BOUND event at the head of the list (R161). -/
def State.cashBindApplied (s : State) : State :=
  match s.cash.list with
  | .bind t seen need :: _ =>
    let s := (s.modCash fun c => { c with phase := .bound, bound := t.order, seen := seen, need := need }).popCash
    ((s.emitCash .bound t.order 0 (need - seen) seen none t.seq).endTicket t kindPayCashBind .ok (need - seen)).checkBinds
  | _ => s

/-- PAY_CASH_UNBIND (R163). -/
def State.payCashUnbind (t : Ticket) (s : State) : State :=
  match s.findOrder t.order with
  | none => s.endTicket t kindPayCashUnbind .noOrder 0
  | some _ =>
    if s.cash.phase == .bound && s.cash.bound == t.order then (s.openWindow .unbind).endTicket t kindPayCashUnbind .ok 0
    else if s.cash.phase == .window && s.cash.bound == t.order then s.endTicket t kindPayCashUnbind .ok alreadyFlag
    else s.endTicket t kindPayCashUnbind .notBound 0

/-- The window's end event stands in the list. -/
def Cash.endListed (c : Cash) : Bool := c.list.any fun i => i == .windowEnd

/-- The settle window reaches its end, and its end event joins the list (R163). -/
def State.windowExpired (s : State) : State :=
  match s.cash.phase, s.cash.windowEnd with
  | .window, some t =>
    if reached s.clock t && !s.cash.endListed then s.modCash fun c => { c with list := c.list ++ [.windowEnd] } else s
  | _, _ => s

/-! ## Credits, strays and the window's end (R165 to R167) -/

/-- A credit group with an order at the head of the list (R165). -/
def State.cashCreditApplied (s : State) : State :=
  match s.cash.list with
  | .credit (some n) count :: _ =>
    let value := s.cash.pulseValue
    match s.creditOrder n count value with
    | none => (s.popCash.strayCash count .orderClosed).checkBinds
    | some (k, s) =>
      let credited := match s.findOrder n with | some o => o.cash | none => 0
      let need := match s.findOrder n with | some o => o.cashNeed | none => 0
      let s := (s.modCash fun c => { c with seen := credited, need := need }).popCash
      let s := (s.emitCash .credit n k (k * value) credited none 0).fundingTest n 0
      (if k < count then s.strayCash (count - k) .ceiling else s).checkBinds
  | _ => s

/-- A STRAY group at the head of the list (R166). -/
def State.cashStrayApplied (s : State) : State :=
  match s.cash.list with
  | .credit none count :: _ => (s.popCash.strayCash count .noBinding).checkBinds
  | _ => s

/-- The window's end event at the head of the list (R167). -/
def State.windowEndApplied (s : State) : State :=
  match s.cash.list with
  | .windowEnd :: _ =>
    let n := s.cash.bound
    let why := s.cash.windowReason
    let credited := match s.findOrder n with | some o => o.cash | none => 0
    let s := s.modCash fun c => { c with phase := .none, bound := 0, windowEnd := none, seen := 0, need := 0 }
    ((s.emitCash .unbound n 0 0 credited (some why) 0).clearBound n).popCash.checkBinds
  | _ => s

end Sys2Proof.Machine
end

