-- ==== Sys2Proof/Machine/Operands.lean ====
section
/-! DEFINITION. What the part reads: ticket headers and bodies (12.4), and the setup block with its clamping (R171, R172, 12.3). -/

namespace Sys2Proof.Machine

/-! ## Ticket headers and bodies -/

/-- A header's kind, sequence and order number (12.4). -/
def headerOf (slot : Nat) (b : List Byte) : Header :=
  { slot := slot, kind := field b 2 2, seq := field b 4 2, order := field b 6 2 }

/-- The header shows owner CONTROLLER and state POSTED (R173). -/
def headerPosted (b : List Byte) : Bool := byteAt b 0 == 1 && byteAt b 1 == 1

/-- The j-th item description of an ORDER_ADD_ITEMS body (12.4). -/
def itemDescAt (b : List Byte) (j : Nat) : ItemDesc :=
  { address := field b (16 + 16 * j) 8
    product := byteAt b (24 + 16 * j)
    copies := byteAt b (25 + 16 * j)
    preStaged := byteAt b (26 + 16 * j) }

/-- The j-th extent of a CARD_READ body (12.4). -/
def extentAt (b : List Byte) (j : Nat) : Extent :=
  { start := field b (16 + 16 * j) 4, count := field b (20 + 16 * j) 2, dest := field b (24 + 16 * j) 8 }

/-- The command of an ENGINE_CONTROL body; none for an unknown action (R132). -/
def engineControlOf (t : Ticket) (b : List Byte) : Option Instr :=
  match byteAt b 1 with
  | 1 => some (.engineControlPause t (byteAt b 0))
  | 2 => some (.engineControlResume t (byteAt b 0))
  | 3 => some (.engineControlReset t (byteAt b 0))
  | 4 => some (.engineControlEvacuate t (byteAt b 0))
  | _ => none

/-- The command of a LINK_TEST body; none for an unknown action (R200). -/
def linkTestOf (t : Ticket) (b : List Byte) : Option Instr :=
  match byteAt b 0 with
  | 1 => some (.linkTestLoopOn t (byteAt b 1))
  | 2 => some (.linkTestLoopOff t)
  | 3 => some (.linkTestSend t (byteAt b 2))
  | 4 => some (.linkTestInsertError t)
  | _ => none

/-- The command that a ticket of a known kind asks for: the kinds and bodies of 12.4. A count of items or extents above 8 is refused by the
count alone (R8, R56), whatever the descriptions read past it. -/
def commandOf (h : Header) (b : List Byte) : Option Instr :=
  let t := h.ticket
  match h.kind with
  | 1 => some (.orderOpen t (byteAt b 0) (byteAt b 1) (byteAt b 2) (byteAt b 3))
  | 2 => some (.orderAddItems t ((List.range (byteAt b 0)).map (itemDescAt b)))
  | 3 => some (.orderQuote t)
  | 4 => some (.orderCancel t)
  | 5 => some (.orderDropItem t (byteAt b 0))
  | 6 => some (.orderResolve t (byteAt b 0) (field b 8 8) (field b 16 4))
  | 7 => some (.payCard t)
  | 8 => some (.payCashBind t)
  | 9 => some (.payCashUnbind t)
  | 10 => some (.cardRead t (byteAt b 0) (byteAt b 1) ((List.range (byteAt b 2)).map (extentAt b)))
  | 11 => some (.loadPrices t (field b 0 8))
  | 12 => some (.loadTone t (byteAt b 0) (byteAt b 1) (field b 8 8))
  | 13 => engineControlOf t b
  | 14 => some (.mediaSet t (byteAt b 0) (byteAt b 1) (field b 2 2) (field b 4 2))
  | 15 => some (.engineProof t (byteAt b 0) (byteAt b 1) (byteAt b 2) (byteAt b 3) (field b 4 2) (field b 8 8) (field b 16 8))
  | 16 => some (.refreshSettings t)
  | 17 => some (.readCounters t)
  | 18 => linkTestOf t b
  | _ => none

/-- A block owns the ticket's kind (R174, 12.4). -/
def Header.owned (h : Header) : Bool := decide (1 ≤ h.kind) && decide (h.kind ≤ 18)

/-- The detail with which a block refuses a ticket of its kind whose action is none that 12.4 gives, and the blocks at which it is refused:
ENGINE_CONTROL at its engine port, which checks the engine first (R132), LINK_TEST at the tender link controller (R200). -/
def actionRefusal (h : Header) (b : List Byte) : Nat × List Owner :=
  if h.kind == kindEngineControl then
    match engineOf (byteAt b 0) with
    | some e => (2, [.port e])
    | none => (1, [])
  else (1, [.tender])

/-! ## The setup block -/

/-- The nearest legal value of a range (R172). -/
def nearest (lo hi v : Nat) : Nat := max lo (min v hi)

/-- A field of the setup block in the list of clamped fields when the value entered is not the value read. -/
def noteClamp (k raw entered : Nat) : List Nat := if raw == entered then [] else [k]

/-- The log size entered (R172). -/
def legalLogSize (v : Nat) : Nat := if v == 64 || v == 128 || v == 256 || v == 512 then v else 256

/-- A two-valued code: an unknown one is entered as code 0 (R172). -/
def legalCode (v : Nat) : Nat := if v == 1 then 1 else 0

/-- The notify threshold entered: 0 EACH, 1 to 8 eighths, an unknown code as 8 (R172). -/
def legalNotify (v : Nat) : Nat := min v 8

/-- The abandon timeout entered: 0, or 30 to 3,600 (R172). -/
def legalAbandon (v : Nat) : Nat := if v == 0 then 0 else nearest 30 3600 v

/-- The start-time settings of a block (12.3, offsets 0 to 7), with the fields clamped. The interval is a setting under
AUTO only (log entry 8). -/
def startSettings (b : List Byte) (s : Settings) : Settings × List Nat :=
  let auto := legalCode (byteAt b 3) == 1
  ({ s with
      logSize := legalLogSize (field b 0 2)
      tolerant := legalCode (byteAt b 2) == 1
      report := if auto then .auto (nearest 1 60 (byteAt b 4)) else .manual
      pulseValue := nearest 1 65535 (field b 6 2) },
    noteClamp 0 (field b 0 2) (legalLogSize (field b 0 2)) ++ noteClamp 1 (byteAt b 2) (legalCode (byteAt b 2))
      ++ noteClamp 2 (byteAt b 3) (legalCode (byteAt b 3))
      ++ (if auto then noteClamp 3 (byteAt b 4) (nearest 1 60 (byteAt b 4)) else [])
      ++ noteClamp 4 (field b 6 2) (nearest 1 65535 (field b 6 2)))

/-- One engine's set at an offset of the block (12.3); `k` is the number of its first field (12.6). -/
def renderSettings (b : List Byte) (off k : Nat) : RenderSet × List Nat :=
  let gain (j : Nat) := field b (off + 2 * j) 2
  let limit (j : Nat) := field b (off + 6 + 2 * j) 2
  ({ gainY := nearest 0 1023 (gain 0), gainM := nearest 0 1023 (gain 1), gainC := nearest 0 1023 (gain 2)
     maxY := nearest 1 1023 (limit 0), maxM := nearest 1 1023 (limit 1), maxC := nearest 1 1023 (limit 2)
     overcoat := nearest 0 1023 (field b (off + 12) 2)
     tRef := byteAt b (off + 14), slope := byteAt b (off + 15), history := byteAt b (off + 16), decay := byteAt b (off + 17)
     weight := nearest 0 15 (byteAt b (off + 18))
     tStop := byteAt b (off + 19), tResume := byteAt b (off + 20) },
   ((List.range 3).map fun j => noteClamp (k + j) (gain j) (nearest 0 1023 (gain j))).flatten
     ++ ((List.range 3).map fun j => noteClamp (k + 3 + j) (limit j) (nearest 1 1023 (limit j))).flatten
     ++ noteClamp (k + 6) (field b (off + 12) 2) (nearest 0 1023 (field b (off + 12) 2))
     ++ noteClamp (k + 11) (byteAt b (off + 18)) (nearest 0 15 (byteAt b (off + 18))))

/-- The live settings of a block (12.3, offsets 16 to 30 and the two render sets), with the fields clamped. -/
def liveSettings (b : List Byte) (s : Settings) : Settings × List Nat :=
  let r0 := renderSettings b 64 16
  let r1 := renderSettings b 96 30
  ({ s with
      scanInterval := byteAt b 16
      notify := legalNotify (byteAt b 17)
      linger := nearest 1 1000 (field b 18 2)
      abandon := legalAbandon (field b 20 2)
      taxRate := nearest 0 3000 (field b 22 2)
      holdTimeout := nearest 5 300 (field b 24 2)
      shortTimeout := nearest 2 30 (byteAt b 26)
      reprintBudget := nearest 0 3 (byteAt b 27)
      cardBoth := legalCode (byteAt b 28) == 1
      engineBoth := legalCode (byteAt b 29) == 1
      tenderBoth := legalCode (byteAt b 30) == 1
      render := ⟨r0.1, r1.1⟩ },
    noteClamp 6 (byteAt b 17) (legalNotify (byteAt b 17)) ++ noteClamp 7 (field b 18 2) (nearest 1 1000 (field b 18 2))
      ++ noteClamp 8 (field b 20 2) (legalAbandon (field b 20 2)) ++ noteClamp 9 (field b 22 2) (nearest 0 3000 (field b 22 2))
      ++ noteClamp 10 (field b 24 2) (nearest 5 300 (field b 24 2)) ++ noteClamp 11 (byteAt b 26) (nearest 2 30 (byteAt b 26))
      ++ noteClamp 12 (byteAt b 27) (nearest 0 3 (byteAt b 27)) ++ noteClamp 13 (byteAt b 28) (legalCode (byteAt b 28))
      ++ noteClamp 14 (byteAt b 29) (legalCode (byteAt b 29)) ++ noteClamp 15 (byteAt b 30) (legalCode (byteAt b 30))
      ++ r0.2 ++ r1.2)

/-- A reading of the setup block: both classes, or the live settings with the start-time ones left as held (R171). -/
def readSetup (both : Bool) (b : List Byte) (held : Settings) : Settings × List Nat :=
  let start := if both then startSettings b held else (held, [])
  let live := liveSettings b start.1
  (live.1, start.2 ++ live.2)

end Sys2Proof.Machine
end

