-- ==== Sys2Proof/Machine/Card.lean ====
section
/-! DEFINITION. The card intake unit (Card Intake): presence, identification, CARD_READ and the block reads. -/

namespace Sys2Proof.Machine

/-- A REMOVAL waits at the slot (R48, R54). -/
def Slot.removalWaits (x : Slot) : Bool := x.waiting == some .removal

/-- The CARD outcome of a change that has just been made (R53). It carries the figures after the change; `attempts` is given where the
change has cleared them (log entry 19). Its ticket sequence is 0 for every cause, READ_BEGIN brought by a CARD_READ among them (DESIGN CHOICE, log
entry 11). -/
def State.emitCard (n : Fin 4) (cause : CardCause) (prev : SlotState) (attempts order : Nat) (failure : Option IdentifyFailure)
    (s : State) : State :=
  let x := s.slots.get n
  s.emit (.card cause prev x.state x.capacity attempts x.queue.length failure) n.val order 0

/-! ## Presence (R47 to R49) -/

/-- The samples that declare a REMOVAL: 4 under FAST, 32 under TOLERANT (R47). -/
def State.removalCriterion (s : State) : Nat := if s.settings.tolerant then 32 else 4

/-- An INSERTION is declared: the declared presence changes, both runs go to 0 and the declaration waits to be applied (R47, R48). Nothing is
declared before the first RUNNING, while a declaration waits, or when a card is declared already. The run of samples leaves the line showing the
card. -/
def State.declareInsertion (n : Fin 4) (s : State) : State :=
  let x := s.slots.get n
  if s.exch.ranOnce && !x.declared && x.waiting.isNone then
    (s.modSlot n fun x => { x with declared := true, presentRun := 0, absentRun := 0, waiting := some .insertion, detect := true }).push
      (.insertionApplied n)
  else s

/-- An INSERTION applied to an EMPTY slot (R49, R53). -/
def State.insertionApplied (n : Fin 4) (s : State) : State :=
  let x := s.slots.get n
  if x.waiting != some .insertion then s
  else
    let s := s.modSlot n fun x => { x with waiting := none, presentRun := 0, absentRun := 0 }
    if x.state == .empty then
      let s := s.modSlot n fun x => { x with state := .settled, power := true, since := s.clock }
      (s.emitCard n .inserted .empty x.attempts 0 none).attend .card
    else s

/-- A REMOVAL is declared: the slot makes no further request of the card (R47, R54, R64). It is applied at once, or when the block write in
progress has finished (R64). -/
def State.declareRemoval (n : Fin 4) (s : State) : State :=
  let x := s.slots.get n
  if s.exch.ranOnce && x.declared && x.waiting.isNone then
    let s := s.modSlot n fun x =>
      { x with declared := false, presentRun := 0, absentRun := 0, waiting := some .removal, request := none, detect := false }
    if x.writing then s else s.push (.removalApplied n)
  else s

/-! ## Reports of a read's end (R60, R62, R64, R67) -/

/-- A read names an order item (R58). -/
def ReadEntry.namesItem (r : ReadEntry) : Bool := r.order != 0 && r.item != 255

/-- The staging report of a read that names an item. -/
def State.reportStaging (r : ReadEntry) (k : StagingReport) (s : State) : State :=
  if r.namesItem then s.push (.staging r.order r.item k) else s

/-- The read-end report of a read that names an order: the quiet test follows (R67, R21). -/
def State.reportReadEnd (r : ReadEntry) (s : State) : State := if r.order != 0 then s.push (.quiet r.order 0) else s

/-- The read-end reports of a list of reads. -/
def State.reportReadEnds : List ReadEntry → State → State
  | [], s => s
  | r :: l, s => State.reportReadEnds l (s.reportReadEnd r)

/-- The CARD_READs of a slot that still wait for the order table's answer (R56), with what they name. -/
def Act.parkedRead (n : Fin 4) : Act → Option Ticket
  | .readOrder t slot _ _ => if slot == n then some t else none
  | _ => none

/-- The ticket handed on is a CARD_READ that passed the checks of a slot at its take (R56). -/
def Handed.readsAt (n : Fin 4) (h : Handed) : Bool := h.read == some (.passed n)

/-- The CARD_READs that passed a slot's checks at the take, and have not been applied yet or wait for the order table's answer, end CARD_REMOVED with
the slot's other reads (R56, R64; log entry 53). -/
def State.endParked (n : Fin 4) (s : State) : State :=
  let parked := s.waiting.filterMap fun j => j.act.parkedRead n
  let handed := (s.exch.handed.filter (Handed.readsAt n)).map fun h => h.header.ticket
  let s' : State := { s with waiting := s.waiting.filter fun j => (j.act.parkedRead n).isNone }
  (parked ++ handed).foldl (fun s t => s.endTicket t kindCardRead .cardRemoved 0)
    (s'.modExch fun x => { x with handed := x.handed.filter fun h => !h.readsAt n })

/-- A REMOVAL applied (R49, R54, R64): the slot goes EMPTY, and every read ends CARD_REMOVED, oldest first. A head read that never started, because the
one before it ended while the REMOVAL waited, sends no failure report (DESIGN CHOICE, log entry 68). -/
def State.removalApplied (n : Fin 4) (s : State) : State :=
  let x := s.slots.get n
  if !x.removalWaits then s
  else
    let s := s.modSlot n fun x => { x with waiting := none, presentRun := 0, absentRun := 0 }
    if x.state == .empty then s
    else
      let s := s.modSlot n fun x =>
        { x with state := .empty, power := false, capacity := 0, attempts := 0, pos := none, request := none, writing := false,
                 queue := [] }
      let s := (s.emitCard n .removed x.state 0 0 none).attendIf s.settings.cardBoth .card
      let s := s.endReads .cardRemoved x.queue
      let s := match x.inFlight, x.pos with
        | some r, some _ => s.reportStaging r .failure
        | _, _ => s
      (s.reportReadEnds x.queue).endParked n

/-! ## Identification (R49 to R52) -/

/-- An identify request is outstanding (R51). -/
def Slot.awaitsIdentify (x : Slot) : Bool := x.request == some .identify

/-- A block request is outstanding (R59). -/
def Slot.awaitsBlock (x : Slot) : Bool :=
  match x.request with
  | some (.block _) => true
  | some .identify | none => false

/-- An identify request is sent: the attempts rise by 1 and the wait begins (R51). -/
def Slot.sendIdentify (now : Nat) (x : Slot) : Slot :=
  { x with attempts := x.attempts + 1, request := some .identify, since := now }

/-- The end of the settle time (R49). -/
def State.settleEnd (n : Fin 4) (s : State) : State :=
  let x := s.slots.get n
  if x.state == .settled && !x.removalWaits && reached s.clock (x.since + Config.settleTime) then
    let s := s.modSlot n fun x => { x with state := .identifying }
    (s.emitCard n .settled .settled x.attempts 0 none).modSlot n (Slot.sendIdentify s.clock)
  else s

/-- A failed identify attempt: the next request at once, or after the third the slot is to fault (R51, R52). -/
def State.identifyFailed (n : Fin 4) (why : IdentifyFailure) (s : State) : State :=
  if (s.slots.get n).attempts < 3 then s.modSlot n (Slot.sendIdentify s.clock)
  else (s.modSlot n fun x => { x with request := none }).push (.slotFaulted n why)

/-- An identify answer; one that no attempt waits for is discarded (R50, R51). An answer names no attempt, so a late one is the answer of the attempt
under way (DESIGN CHOICE, log entry 70). -/
def State.identifyAnswered (n : Fin 4) (capacity check : Nat) (s : State) : State :=
  let x := s.slots.get n
  if x.state == .identifying && x.request == some .identify then
    if cardCheck (beBytes 4 capacity) != check then s.identifyFailed n .check
    else if capacity == 0 then s.identifyFailed n .zeroCapacity
    else (s.modSlot n fun x => { x with request := none }).push (.identified n capacity)
  else s

/-- No identify answer within 100 ms (R51). -/
def State.identifyTimedOut (n : Fin 4) (s : State) : State :=
  let x := s.slots.get n
  if x.state == .identifying && x.request == some .identify && reached s.clock (x.since + Config.identifyWait) then
    s.identifyFailed n .noAnswer
  else s

/-- A success of the identification: the slot moves to READY (R51), unless a REMOVAL has been declared meanwhile (R54). -/
def State.identified (n : Fin 4) (capacity : Nat) (s : State) : State :=
  let x := s.slots.get n
  if x.state == .identifying && !x.removalWaits then
    let s := s.modSlot n fun x => { x with state := .ready, capacity := capacity, attempts := 0 }
    s.emitCard n .identified .identifying x.attempts 0 none
  else s

/-- The third failure: the slot moves to FAULTED with its power off (R52), unless a REMOVAL has been declared meanwhile (R54). -/
def State.slotFaulted (n : Fin 4) (why : IdentifyFailure) (s : State) : State :=
  let x := s.slots.get n
  if x.state == .identifying && !x.removalWaits then
    let s := s.modSlot n fun x => { x with state := .faulted, power := false }
    s.emitCard n .idFailed .identifying x.attempts 0 (some why)
  else s

/-! ## The course of a read (R58 to R63) -/

/-- The current extent of the read in flight. -/
def Slot.extent (x : Slot) : Option (ReadEntry × Extent × ReadPos) :=
  match x.inFlight, x.pos with
  | some r, some p =>
    match r.extents[p.extent]? with
    | some e => some (r, e, p)
    | none => none
  | _, _ => none

/-- The block request of the read position is sent (R59). -/
def Slot.sendBlock (now : Nat) (x : Slot) : Slot :=
  match x.extent with
  | some (_, e, p) => { x with request := some (.block (e.start + p.block)), since := now }
  | none => x

/-- The head of a READING slot's queue starts its read; none starts while a REMOVAL waits (R58, R64). -/
def State.startRead (n : Fin 4) (s : State) : State :=
  let x := s.slots.get n
  match x.inFlight with
  | none => s
  | some r =>
    if x.removalWaits then s
    else
      (s.reportStaging r .start).modSlot n fun x =>
        Slot.sendBlock s.clock { x with pos := some { extent := 0, block := 0, attempt := 1 } }

/-- The change to READING (R57, R53); none is made once a REMOVAL has been declared (R54). -/
def State.readBegin (n : Fin 4) (s : State) : State :=
  let x := s.slots.get n
  match x.state == .ready && !x.removalWaits, x.queue.head? with
  | true, some r =>
    let s := s.modSlot n fun x => { x with state := .reading }
    (s.emitCard n .readBegin .ready x.attempts r.order none).startRead n
  | _, _ => s

/-- The change to READY at an empty queue (R63). A read queued meanwhile has started, and no change is made; nor is one once a REMOVAL has been
declared (R54). -/
def State.queueEmpty (n : Fin 4) (order : Nat) (s : State) : State :=
  let x := s.slots.get n
  if x.state == .reading && x.queue.isEmpty && !x.removalWaits then
    let s := s.modSlot n fun x => { x with state := .ready }
    s.emitCard n .queueEmpty .reading x.attempts order none
  else s

/-- The read in flight ends: it leaves the queue with its result and reports, and the next read starts or the slot goes READY (R63, R67). -/
def State.endRead (n : Fin 4) (code : ResultCode) (s : State) : State :=
  let x := s.slots.get n
  match x.inFlight with
  | none => s
  | some r =>
    let s := s.modSlot n fun x => { x with queue := x.queue.tail, pos := none, request := none, writing := false }
    let s := s.endTicket r.ticket kindCardRead code r.blocksDone
    let s := s.reportStaging r (if code == .ok then .success else .failure)
    let s := s.reportReadEnd r
    if x.queue.tail.isEmpty then s.push (.queueEmpty n r.order) else s.startRead n

/-- The result of a read that a cancel or a stop ends at its block boundary, or the result the boundary itself gives (R65, R68). -/
def ReadEntry.resultOr (r : ReadEntry) (code : ResultCode) : ResultCode :=
  match r.endAs with
  | some .cancelled => .cancelled
  | some .stopped => .stopped
  | none => code

/-- A failed block attempt: a check error, and a repeat, or after the fourth the end of the read, with the retries exhausted count (R59, R60, R70),
which rises for a read that then ends CANCELLED or STOPPED too (R65, R68; log entry 26). -/
def State.blockFailed (n : Fin 4) (s : State) : State :=
  let x := s.slots.get n
  match x.extent with
  | none => s
  | some (r, _, p) =>
    let s := s.count (.checkErrors n) 1
    if p.attempt < 4 then
      s.modSlot n fun x => Slot.sendBlock s.clock { x with pos := some { p with attempt := p.attempt + 1 } }
    else
      (s.count (.retriesExhausted n) 1).endRead n (r.resultOr .readError)

/-- A block answer: a good one is handed to the memory mover; one that no attempt waits for is discarded (R59). An answer names no attempt, so a late
one is the answer of the attempt under way (DESIGN CHOICE, log entry 70). -/
def State.blockAnswered (n : Fin 4) (data : List Byte) (check : Nat) (s : State) : State :=
  let x := s.slots.get n
  match x.extent, x.request with
  | some (_, e, p), some (.block _) =>
    if cardCheck data == check then
      (s.modSlot n fun x => { x with request := none, writing := true }).request (.block n) (e.dest + 512 * p.block) 512
        (some (fit 512 data))
    else s.blockFailed n
  | _, _ => s

/-- No block answer within 50 ms (R59). -/
def State.blockTimedOut (n : Fin 4) (s : State) : State :=
  let x := s.slots.get n
  match x.request with
  | some (.block _) => if reached s.clock (x.since + Config.blockWait) then s.blockFailed n else s
  | _ => s

/-- The position after a block of an extent, if the read goes on (R62). -/
def ReadPos.next (p : ReadPos) (e : Extent) (extents : Nat) : Option ReadPos :=
  if p.block + 1 < e.count then some { p with block := p.block + 1, attempt := 1 }
  else if p.extent + 1 < extents then some { extent := p.extent + 1, block := 0, attempt := 1 }
  else none

/-- A block's write is acknowledged: blocks done rises, and the read goes on, ends, or gives way to a REMOVAL (R59, R62, R64, R65). A REMOVAL that waits
ends a read CARD_REMOVED that a cancel or a stop has named before (DESIGN CHOICE, log entry 67). -/
def State.blockWritten (n : Fin 4) (s : State) : State :=
  match (s.slots.get n).extent with
  | none => s
  | some (r, e, p) =>
    let s := s.modSlot n fun x =>
      { x with writing := false, queue := x.queue.modify 0 fun r => { r with blocksDone := r.blocksDone + 1 } }
    if (s.slots.get n).removalWaits then s.push (.removalApplied n)
    else if r.endAs.isSome then s.endRead n (r.resultOr .ok)
    else
      match p.next e r.extents.length with
      | some q => s.modSlot n fun x => Slot.sendBlock s.clock { x with pos := some q }
      | none => s.endRead n .ok

/-- A memory error on a block's write ends the read at once (R61); a REMOVAL that waited for the write is then applied (R64). -/
def State.blockWriteFailed (n : Fin 4) (s : State) : State :=
  let x := s.slots.get n
  match x.inFlight with
  | none => s
  | some r =>
    let s := s.endRead n (r.resultOr .memoryError)
    if x.removalWaits then s.push (.removalApplied n) else s

/-! ## CARD_READ (R55 to R57) -/

/-- An extent outside the card or the address space (R56). -/
def Extent.bad (capacity : Nat) (x : Extent) : Bool :=
  decide (capacity < x.start + x.count) || decide (Config.addressLimit < x.dest + 512 * x.count)

/-- The order and item checks of a CARD_READ (R56). -/
def State.readOrderRefusal (s : State) (order slot item : Nat) : Option (ResultCode × Nat) :=
  if order == 0 then none
  else
    match s.findOrder order with
    | none => some (.noOrder, 0)
    | some o =>
      if o.station != slot then some (.badField, 6)
      else if o.cancel.isSome || o.state == .settling
          || (match o.unresolved with | some u => o.state == .unresolved && u.prior == .settling | none => false) then
        some (.wrongState, o.state.code)
      else if item != 255 && decide (o.items.length ≤ item) then some (.badField, 5)
      else none

/-- The slot's own checks of R56, in their order, as the slot stands. -/
def State.readCheck (s : State) (order slot item : Nat) (extents : List Extent) : ReadCheck :=
  match slotOf slot with
  | none => .refused .badField 1
  | some n =>
    let x := s.slots.get n
    if extents.isEmpty || 8 < extents.length then .refused .badField 2
    else if extents.any fun e => e.count == 0 then .refused .badField 3
    else if order == 0 && item != 255 then .refused .badField 4
    else if !(x.state == .ready || x.state == .reading) || x.removalWaits then .refused .cardAbsent x.state.code
    else
      match extents.findIdx? (Extent.bad x.capacity) with
      | some k => .refused .badExtent k
      | none => .passed n

/-- What the slot's checks make of a ticket as it is taken, when it is a CARD_READ (R56, R174). -/
def State.checkAtTake (s : State) (h : Header) (body : List Byte) : Option ReadCheck :=
  match commandOf h body with
  | some (.cardRead t slot item extents) => some (s.readCheck t.order slot item extents)
  | _ => none

/-- What the slot's checks made of a CARD_READ at its take: kept with the ticket handed on, or made now when the command stands for the take (log
entry 3). -/
def State.readVerdict (s : State) (t : Ticket) (slot item : Nat) (extents : List Extent) : ReadCheck :=
  match (s.exch.handed.find? fun h => h.header.ticket == t).bind Handed.read with
  | some c => c
  | none => s.readCheck t.order slot item extents

/-- The places of a slot's read queue that are given: to the entries in it, and to the CARD_READs accepted that are not entries yet, since they
have not been applied or wait for the order table (R55, R56). -/
def State.readPlaces (s : State) (n : Fin 4) : Nat :=
  (s.slots.get n).queue.length + (s.exch.handed.filter (Handed.readsAt n)).length
    + (s.waiting.filter fun j => (j.act.parkedRead n).isSome).length

/-- The unit declines an offer: the named slot's read queue holds 4 entries (R55). -/
def State.declinesRead (s : State) (slot : Nat) : Bool :=
  match slotOf slot with
  | some n => decide (Config.readQueuePlaces ≤ s.readPlaces n)
  | none => false

/-- CARD_READ at the order table and after (R56, R57): the order and item checks, and the read entry. A REMOVAL that was applied while the ticket
waited for the order table has ended it (log entry 53). It joins the slot's queue when its checks pass, so one that waited stands behind the reads
that were taken after it and joined before (R46, R57; DESIGN CHOICE, log entry 56). -/
def State.readOrder (t : Ticket) (n : Fin 4) (item : Nat) (extents : List Extent) (s : State) : State :=
  match s.readOrderRefusal t.order n.val item with
  | some (code, detail) => s.endTicket t kindCardRead code detail
  | none =>
    if s.exch.part.stopsReads then s.endTicket t kindCardRead .stopped 0
    else
      let x := s.slots.get n
      let s := s.modSlot n fun x =>
        { x with queue := x.queue ++ [{ ticket := t, order := t.order, item := item, extents := extents }] }
      if x.queue.isEmpty then
        if x.state == .ready then s.push (.readBegin n) else s.startRead n
      else s

/-- CARD_READ (R56), with what the slot's checks made of it at its take. The order's checks follow as a request of the order table. -/
def State.cardRead (t : Ticket) (item : Nat) (extents : List Extent) (atTake : ReadCheck) (s : State) : State :=
  match atTake with
  | .refused code detail => s.endTicket t kindCardRead code detail
  | .passed n => s.push (.readOrder t n item extents)

/-! ## STOP and HALT (R68) -/

/-- One slot's reads when the part enters STOPPING or HALTED: the queued ones end STOPPED, the one in flight at its next block boundary.
One that a cancel has named before keeps the end CANCELLED (DESIGN CHOICE, log entry 55). -/
def State.stopReadsAt (n : Fin 4) (s : State) : State :=
  let x := s.slots.get n
  let head := match x.inFlight with
    | some r => [if r.endAs.isNone then { r with endAs := some .stopped } else r]
    | none => []
  ((s.modSlot n fun x => { x with queue := head }).endReads .stopped x.queued).reportReadEnds x.queued

/-- Entry into STOPPING or HALTED reaches the card intake unit (R68). -/
def State.stopReads (s : State) : State := slotNumbers.foldl (fun s n => s.stopReadsAt n) s

end Sys2Proof.Machine
end

