-- ==== Sys2Proof/Machine/Counters.lean ====
section
/-! DEFINITION. The counter block's reports (11.2). A rise of a counter is State.count of Machine/Ops.lean. -/

namespace Sys2Proof.Machine

/-- The interval of AUTO mode in ms; none under MANUAL (R198). -/
def State.reportInterval (s : State) : Option Nat :=
  match s.settings.report with
  | .manual => none
  | .auto n => some (1000 * n)

/-- The report timer starts: under AUTO, from the first RUNNING on (R198). -/
def State.startReportTimer (s : State) : State :=
  s.modCounters fun c => { c with timer := if s.exch.ranOnce && s.reportInterval.isSome then some s.clock else none }

/-- READ_COUNTERS: it makes a report due, or joins the one that is (R199). -/
def State.readCounters (t : Ticket) (s : State) : State :=
  s.modCounters fun c =>
    match c.due with
    | none => { c with due := some { seq := t.seq, tickets := [t] }, timer := none }
    | some d => { c with due := some { d with tickets := d.tickets ++ [t] } }

/-- The moment the report timer expires; none while it does not run (R198). -/
def State.reportAt (s : State) : Option Nat :=
  match s.counters.timer, s.reportInterval with
  | some t, some i => some (t + i)
  | _, _ => none

/-- The report timer expires: a report becomes due, and the timer does not run while it waits (R198). -/
def State.reportTimerExpired (s : State) : State :=
  match s.reportAt with
  | some t =>
    if reached s.clock t then
      s.modCounters fun c => { c with timer := none, due := some (c.due.getD { seq := 0, tickets := [] }) }
    else s
  | none => s

/-- The report number after a number: 65,535 is followed by 1 (R197). -/
def nextReport (n : Nat) : Nat := if n == 65535 then 1 else n + 1

/-- The READ_COUNTERS tickets of a report end (R199). -/
def State.endReports (number : Nat) : List Ticket → State → State
  | [], s => s
  | t :: l, s => State.endReports number l (s.endTicket t kindReadCounters .ok number)

/-- The values and flags of a report's three parts (R197). -/
def State.reportParts (s : State) : List (List Nat × List Bool) :=
  let v := s.counters.counters.map Counter.value
  let f := s.counters.counters.map Counter.saturated
  let margins := [s.renderers.zero.margin, s.renderers.one.margin]
  [(v.take 8, f.take 8),
   ((v.drop 8).take 2 ++ margins ++ (v.drop 10).take 4, (f.drop 8).take 2 ++ [false, false] ++ (f.drop 10).take 4),
   ((v.drop 14).take 2 ++ List.replicate 6 0, (f.drop 14).take 2 ++ List.replicate 6 false)]

/-- One outcome of a report for each part, from a part number on. -/
def State.emitParts (number seq : Nat) : Nat → List (List Nat × List Bool) → State → State
  | _, [], s => s
  | k, (v, f) :: l, s => State.emitParts number seq (k + 1) l (s.emit (.counters number k v f) 0 0 seq)

/-- The report: three outcomes, and the transfer and clear (R197 to R199). -/
def State.counterReport (s : State) : State :=
  match s.counters.due with
  | none => s
  | some d =>
    let number := nextReport s.counters.reportNumber
    let s := s.emitParts number d.seq 1 s.reportParts
    let s := s.modCounters fun c =>
      { c with counters := List.replicate 16 {}, periodMark := false, reportNumber := number, due := none }
    let s := (s.modRend 0 fun r => { r with margin := 16 }).modRend 1 fun r => { r with margin := 16 }
    (s.endReports number d.tickets).startReportTimer

end Sys2Proof.Machine
end

