-- ==== Sys2Proof/Machine/Records.lean ====
section
/-! DEFINITION. What the part writes: outcome records (12.6), ticket completions (12.4), context frames (12.7, R85), and the register
window as it reads (12.2). -/

namespace Sys2Proof.Machine

/-! ## Codes -/

/-- Order causes (12.6). -/
def OrderCause.code : OrderCause → Nat
  | .ticket => 1 | .funds => 2 | .print => 3 | .accounted => 4 | .quiet => 5 | .tender => 6 | .abandon => 7

/-- Close reasons (12.6). -/
def CloseReason.code : CloseReason → Nat
  | .completed => 1 | .cancelled => 2 | .abandoned => 3

/-- Result codes (12.4). -/
def ResultCode.code : ResultCode → Nat
  | .ok => 0 | .badKind => 1 | .badField => 2 | .dupOrder => 3 | .tableFull => 4 | .noOrder => 5
  | .wrongState => 6 | .tooLarge => 7 | .noPrice => 8 | .busy => 9 | .inUse => 10 | .notBound => 11
  | .cardAbsent => 12 | .badExtent => 13 | .readError => 14 | .memoryError => 15 | .cardRemoved => 16 | .cancelled => 17
  | .stopped => 18 | .approved => 19 | .partialHold => 20 | .declined => 21 | .unresolved => 22 | .testActive => 23

/-- Card causes (12.6). -/
def CardCause.code : CardCause → Nat
  | .inserted => 1 | .settled => 2 | .identified => 3 | .idFailed => 4 | .removed => 5 | .readBegin => 6 | .queueEmpty => 7

/-- Identify failures (12.6). -/
def IdentifyFailure.code : IdentifyFailure → Nat
  | .noAnswer => 1 | .check => 2 | .zeroCapacity => 3

/-- Engine states as R115 lists them, from 0 (R203). -/
def EngineState.code : EngineState → Nat
  | .offline => 0 | .idle => 1 | .printing => 2 | .blocked => 3 | .held => 4 | .cooling => 5
  | .noMedia => 6 | .paused => 7 | .fault => 8 | .proof => 9

/-- Engine causes (12.6). -/
def EngineCause.code : EngineCause → Nat
  | .ready => 1 | .silent => 2 | .fault => 3 | .boundary => 4 | .printStart => 5 | .spoil => 6 | .spoilWritten => 7
  | .temperature => 8 | .pause => 9 | .resume => 10 | .mediaSet => 11 | .reset => 12 | .proof => 13 | .proofEnd => 14
  | .profileWait => 15

/-- Fault records (12.6). -/
def FaultCode.code : FaultCode → Nat
  | .jam => 1 | .ribbonBreak => 2 | .coverOpen => 3 | .heater => 4 | .silent => 5 | .protocol => 6

/-- First failure causes (12.6). -/
def FailCause.code : FailCause → Nat
  | .late => 1 | .fetchError => 2 | .fault => 3

/-- Copy answers (12.6). -/
def CopyAnswer.code : CopyAnswer → Nat
  | .reprint => 1 | .noReprint => 2 | .endedRun => 3

/-- Run events (12.6). -/
def RunEvent.code : RunEvent → Nat
  | .runPlaced => 1 | .noEngine => 2 | .runActive => 3 | .runPushed => 4 | .runParked => 5 | .pushFailed => 6
  | .runResumed => 7 | .runEnded => 8 | .runLost => 9 | .runReturned => 10

/-- Run causes (12.6). -/
def RunCause.code : RunCause → Nat
  | .completed => 1 | .cancelled => 2 | .check => 3 | .memory => 4

/-- Terminal states, with 0 for none (R203, 12.8). -/
def TermState.code : TermState → Nat
  | .idle => 1 | .presentCard => 2 | .pinEntry => 3 | .authorizing => 4 | .removeCard => 5 | .outOfService => 6

/-- Request kinds of a PAYMENT (12.6). -/
def RequestKind.code : RequestKind → Nat
  | .hold => 1 | .capture => 2 | .release => 3 | .orphan => 4

/-- Payment events (12.6). -/
def PayEvent.code : PayEvent → Nat
  | .sent => 1 | .badResult => 2 | .answered => 3 | .queried => 4 | .unresolved => 5 | .duplicate => 6 | .late => 7
  | .orphanReleased => 8 | .withdrawn => 9

/-- Payment results (12.6). -/
def PayResult.code : PayResult → Nat
  | .approved => 1 | .partialHold => 2 | .declined => 3 | .done => 4 | .refused => 5 | .released => 6 | .unknown => 7
  | .pending => 8

/-- Payment marks (12.6). -/
def PayMark.code : PayMark → Nat
  | .orphanUnresolved => 1 | .orphanNotReleased => 2

/-- Tender events (12.6). -/
def TenderEvent.code : TenderEvent → Nat
  | .state => 1 | .linkDown => 2 | .linkUp => 3 | .loop => 4

/-- Cash events (12.6). -/
def CashEvent.code : CashEvent → Nat
  | .bound => 1 | .credit => 2 | .unbound => 3 | .stray => 4 | .fault => 5 | .faultCleared => 6

/-- Cash reasons (12.6). -/
def CashReason.code : CashReason → Nat
  | .noBinding => 1 | .ceiling => 2 | .orderClosed => 3 | .funded => 4 | .departed => 5 | .unbind => 6 | .acceptorFault => 7

/-- The code of a field with nothing to report is 0 (12.6). -/
def codeOf {α : Type} (f : α → Nat) : Option α → Nat
  | some a => f a
  | none => 0

/-! ## Outcome records (12.6) -/

/-- One byte of a number. -/
def b1 (v : Nat) : List Byte := leBytes 1 v

/-- A flag as a byte. -/
def bFlag (v : Bool) : List Byte := b1 (if v then 1 else 0)

/-- The bits of a list of flags, the first in bit 0. -/
def flagBits : List Bool → Nat
  | [] => 0
  | b :: l => (if b then 1 else 0) + 2 * flagBits l

/-- The clamped fields of a SETTINGS outcome as bits, bit k for field k (12.6). -/
def clampBits (l : List Nat) : Nat := flagBits ((List.range 44).map fun k => l.contains k)

/-- The kind code of a record (12.6). -/
def Payload.kind : Payload → Nat
  | .ticketDone .. => 1
  | .card .. => 2
  | .printRun .. => 3
  | .printEnd .. => 3
  | .engine .. => 4
  | .payment .. => 5
  | .cash .. => 6
  | .orderState .. => 7
  | .orderClosed .. => 7
  | .tender .. => 8
  | .counters .. => 9
  | .settings .. => 10

/-- The source block code of a record (12.6). -/
def Payload.source : Payload → Nat
  | .ticketDone .. => 1
  | .settings .. => 1
  | .orderState .. => 2
  | .orderClosed .. => 2
  | .card .. => 3
  | .printRun .. => 4
  | .printEnd .. => 5
  | .engine .. => 5
  | .payment .. => 6
  | .tender .. => 6
  | .cash .. => 7
  | .counters .. => 8

/-- The payload's named bytes, before the bytes that no table names (12.6). -/
def Payload.fields : Payload → List Byte
  | .ticketDone slot kind code detail => b1 slot ++ leBytes 2 kind ++ leBytes 2 code.code ++ leBytes 4 detail
  | .orderState abandoned prev new cause =>
      b1 (if abandoned then 2 else 1) ++ b1 (codeOf OrderState.code prev) ++ b1 new.code ++ b1 cause.code
  | .orderClosed reason charge captured surplus shortfall spoiled =>
      b1 3 ++ b1 reason.code ++ leBytes 4 charge ++ leBytes 4 captured ++ leBytes 4 surplus ++ leBytes 4 shortfall
        ++ leBytes 2 spoiled
  | .counters number part values flags =>
      leBytes 2 number ++ b1 part ++ (values.map (leBytes 2)).flatten ++ b1 (flagBits flags)
  | .card cause prev new capacity attempts entries failure =>
      b1 cause.code ++ b1 prev.code ++ b1 new.code ++ leBytes 4 capacity ++ b1 attempts ++ b1 entries
        ++ b1 (codeOf IdentifyFailure.code failure)
  | .engine cause prev new fault media sheets ribbons temp =>
      b1 cause.code ++ b1 prev.code ++ b1 new.code ++ b1 (codeOf FaultCode.code fault) ++ b1 (media.getD 255)
        ++ leBytes 2 sheets ++ leBytes 2 ribbons ++ b1 (temp.getD 0) ++ bFlag temp.isSome
  | .printRun event kind cause runs voids depth =>
      b1 event.code ++ b1 kind ++ b1 (codeOf RunCause.code cause) ++ b1 runs ++ b1 voids ++ b1 depth
  | .printEnd spoiled item copy reprint failed first fault answer sheets =>
      b1 (if spoiled then 12 else 11) ++ b1 item ++ b1 copy ++ bFlag reprint ++ leBytes 2 failed
        ++ b1 (codeOf FailCause.code first) ++ b1 (codeOf FaultCode.code fault) ++ b1 (codeOf CopyAnswer.code answer)
        ++ leBytes 2 sheets
  | .payment event kind seq result mark reference amount =>
      b1 event.code ++ b1 (codeOf RequestKind.code kind) ++ b1 seq ++ b1 (codeOf PayResult.code result) ++ b1 (codeOf PayMark.code mark)
        ++ leBytes 8 reference ++ leBytes 4 amount
  | .tender event prev new link loop quiet echo =>
      b1 event.code ++ b1 (codeOf TermState.code prev) ++ b1 (codeOf TermState.code new) ++ bFlag link ++ bFlag loop
        ++ bFlag quiet ++ leBytes 2 echo
  | .cash event count amount credited reason inhibit =>
      b1 event.code ++ leBytes 2 count ++ leBytes 4 amount ++ leBytes 4 credited ++ b1 (codeOf CashReason.code reason)
        ++ bFlag inhibit
  | .settings live refresh clamped =>
      b1 (if live then 2 else 1) ++ b1 (if refresh then 2 else 1) ++ b1 clamped.length ++ leBytes 6 (clampBits clamped)

/-- The 20 payload bytes: bytes that no table names are written as 0 (R203). -/
def Payload.bytes (p : Payload) : List Byte := (p.fields ++ List.replicate 20 0#8).take 20

/-- Bytes 1 to 31 of an outcome record, the log writer's first write (12.6). -/
def OutcomeRecord.bytes (r : OutcomeRecord) : List Byte :=
  b1 r.payload.kind ++ b1 r.payload.source ++ b1 r.unit ++ leBytes 2 r.order ++ leBytes 2 r.seq ++ leBytes 4 r.time
    ++ r.payload.bytes

/-- Bytes 8 to 19 of a ticket header at its completion: result code, bytes that no table names, detail, completion time (12.4, R175). -/
def completionBytes (code : ResultCode) (detail time : Nat) : List Byte :=
  leBytes 2 code.code ++ leBytes 2 0 ++ leBytes 4 detail ++ leBytes 4 time

/-! ## Context frames (12.7) -/

/-- The 31 words of a run's frame before its check word (R84, 12.7). -/
def Run.frameWords (r : Run) : List Nat :=
  [r.order, r.item, r.copy, if r.reprint then r.reprintsLeft else 65535, if r.cls == .express then 1 else 0, r.profile,
    if r.finish == .matte then 1 else 0, r.kind] ++ List.replicate 23 0

/-- The check word: 65,535 less the sum of the other words modulo 65,536 (R85). -/
def checkWord (words : List Nat) : Nat := 65535 - words.sum % 65536

/-- The 64 bytes of a run's frame. -/
def Run.frame (r : Run) : List Byte := ((r.frameWords ++ [checkWord r.frameWords]).map (leBytes 2)).flatten

/-- The 32 words of a frame read back. -/
def frameOf (b : List Byte) : List Nat := (List.range 32).map fun k => field b (2 * k) 2

/-- The pop check of a frame against its directory entry (R87). -/
def framePasses (w : List Nat) (d : DirEntry) : Bool :=
  w.sum % 65536 == 65535 && w.getD 31 0 == d.check && w.getD 0 0 == d.order

/-- The run that a frame restores (R87, 12.7). In a frame that passes the pop check with a code out of range, a class other than 1 is STANDARD, a finish
other than 1 is GLOSSY, and every other word is taken as it stands (DESIGN CHOICE, log entry 74). A run restored with a NEW print has 0 reprints left until its next grant
(R81; DESIGN CHOICE, log entry 85). -/
def runOfFrame (e : Fin 2) (w : List Nat) : Run :=
  { order := w.getD 0 0, engine := e, kind := w.getD 7 0, cls := if w.getD 4 0 == 1 then .express else .standard,
    profile := w.getD 5 0, finish := if w.getD 6 0 == 1 then .matte else .glossy, item := w.getD 1 0, copy := w.getD 2 0,
    reprint := w.getD 3 0 != 65535, reprintsLeft := if w.getD 3 0 == 65535 then 0 else w.getD 3 0, state := .active }

/-! ## The register window as it reads (12.2, R170) -/

/-- Part state codes (12.2). -/
def PartState.code : PartState → Nat
  | .reset => 0 | .starting => 1 | .running => 2 | .stopping => 3 | .stopped => 4 | .halted => 5

/-- Halt cause codes (12.2). -/
def HaltCause.code : HaltCause → Nat
  | .none => 0 | .setup => 1 | .ticket => 2 | .log => 3

/-- The value a register of the window reads as; reading changes nothing (R170). `none` for an offset that is no register. -/
def State.readRegister (s : State) (offset : Nat) : Option Word32 :=
  match offset with
  | 0 => some 0x4B510100#32
  | 4 => some 0#32
  | 8 => some (BitVec.ofNat 32 (s.exch.part.code + 16 * s.exch.haltCause.code + 65536 * s.exch.logPos))
  | 12 => some 0#32
  | 16 => some (s.exch.attnCause.setWidth 32)
  | 20 => some (s.exch.attnEnable.setWidth 32)
  | 24 => some s.exch.baseLow
  | 28 => some s.exch.baseHigh
  | _ => none

end Sys2Proof.Machine
end

