-- ==== Sys2Proof/Machine/Exchange.lean ====
section
/-! DEFINITION. The exchange controller (The Exchange Region): scans and takes, the ticket writer, the log writer, attention, the settings and
the part state. -/

namespace Sys2Proof.Machine

/-! ## Addresses in the region (R169, R84) -/

/-- The address of a ticket slot (R169). -/
def State.slotAddress (s : State) (slot : Nat) : Nat := s.exchBase + 1024 + 256 * slot

/-- The address of the log record at the write position (R169). -/
def State.recordAddress (s : State) : Nat := s.exchBase + 17408 + 32 * s.exch.logPos

/-! ## Notification (R181) -/

/-- The notify threshold in records (R181). -/
def Settings.threshold (x : Settings) : Nat := if x.notify == 0 then 1 else x.notify * x.logSize / 8

/-- The LOG cause is set, and the unannounced count goes to 0 (R181). -/
def State.announce (s : State) : State := (s.modExch fun x => { x with unannounced := 0 }).attend .log

/-- The moment the linger has passed since the first unannounced record; none while the count is 0 (R181). -/
def State.lingerAt (s : State) : Option Nat :=
  if 0 < s.exch.unannounced then some (s.exch.firstUnannounced + s.settings.linger) else none

/-- The notification test (R181). -/
def State.notifyTest (s : State) : State :=
  if s.settings.threshold ≤ s.exch.unannounced then s.announce
  else
    match s.lingerAt with
    | some t => if reached s.clock t then s.announce else s
    | none => s

/-! ## Scans (R176, R177) -/

/-- The part state in which a scan takes tickets (R176). -/
def Exchange.scansTickets (x : Exchange) : Bool := x.part == .running

/-- The part states in which a scan may start (R176). -/
def Exchange.mayScan (x : Exchange) : Bool :=
  match x.part with
  | .running | .stopping | .stopped => true
  | .starting => x.fromStopped
  | .reset | .halted => false

/-- A ticket header is read by the scan (R177). -/
def State.readHeader (slot : Nat) (found : List Header) (s : State) : State :=
  (s.modExch fun x => { x with scan := .headers slot found }).request (.header slot) (s.slotAddress slot) 32 none

/-- A scan begins: the slot of a waiting log writer is read again first, then, in RUNNING, the ticket table (R176, R180). -/
def State.startScan (s : State) : State :=
  let s := s.modExch fun x => { x with scanTimer := if x.settings.scanInterval == 0 then none else some s.clock }
  if s.exch.logWriter == .waiting then
    (s.modExch fun x => { x with scan := .reread, logWriter := .rereading }).request .mark s.recordAddress 1 none
  else if s.exch.scansTickets then s.readHeader 0 []
  else s.modExch fun x => { x with scan := .idle }

/-- A scan ends; an owed scan starts at once (R176). -/
def State.endScan (s : State) : State :=
  let s' := s.modExch fun x => { x with scan := .idle, rescanOwed := false }
  if s.exch.rescanOwed && s.exch.mayScan then s'.startScan else s'

/-- A trigger of a scan: the timer or NUDGE (R176). -/
def State.scanTrigger (s : State) : State :=
  if !s.exch.mayScan then s
  else if s.exch.scan == .idle then s.startScan
  else s.modExch fun x => { x with rescanOwed := true }

/-- The moment the scan timer expires; none while it does not run (R176). -/
def State.scanAt (s : State) : Option Nat :=
  match s.exch.scanTimer with
  | some t => if s.settings.scanInterval == 0 || !s.exch.mayScan then none else some (t + s.settings.scanInterval)
  | none => none

/-- Ticket a is earlier than ticket b (00_scope.md, Ticket sequence numbers). -/
def Header.earlier (a b : Header) : Bool :=
  let d := (b.seq + 65536 - a.seq % 65536) % 65536
  (decide (1 ≤ d) && decide (d ≤ 32767)) || ((d == 0 || d == 32768) && decide (a.slot < b.slot))

/-- The candidate a scan treats next: the first that no other is earlier than, or the one in the lowest slot (R177). -/
def nextCandidate (left : List Header) : Option Header :=
  match left.find? fun h => left.all fun g => g == h || !g.earlier h with
  | some h => some h
  | none => left.head?

/-- Candidates passed over by the order fence, up to one that is not (R177). The first argument bounds the passes. -/
def pastFence : Nat → List Header → List Nat → Option (Header × List Header)
  | 0, _, _ => none
  | k + 1, left, fence =>
    match nextCandidate left with
    | none => none
    | some h =>
      let rest := left.erase h
      if h.order != 0 && fence.contains h.order then pastFence k rest fence else some (h, rest)

/-- Candidates whose slot has an in-flight mark set since their headers were read are no longer the part's to act on (R173, log entry 3). -/
def State.unmarked (left : List Header) (s : State) : List Header := left.filter fun h => !s.exch.inFlight.contains h.slot

/-- The scan goes on to its next candidate: its body is read (R174, R177). The scan ends after the last, or when the part is not RUNNING. -/
def State.nextTake (left : List Header) (fence : List Nat) (s : State) : State :=
  let left := s.unmarked left
  match s.exch.scansTickets, pastFence left.length left fence with
  | true, some (h, rest) =>
    (s.modExch fun x => { x with scan := .taking rest fence (some { header := h, body := none }) }).request (.body h.slot)
      (s.slotAddress h.slot + 32) 224 none
  | _, _ => s.endScan

/-- A ticket header has been read (R173, R177). -/
def State.headerRead (slot : Nat) (b : List Byte) (s : State) : State :=
  match s.exch.scan with
  | .headers _ found =>
    let found := if headerPosted b && !s.exch.inFlight.contains slot then found ++ [headerOf slot b] else found
    if !s.exch.scansTickets then s.endScan
    else if slot < 63 then s.readHeader (slot + 1) found
    else s.nextTake found []
  | _ => s

/-- The offer of a CARD_READ is declined (R55, R177). -/
def State.offerDeclined (s : State) (h : Header) (b : List Byte) : Bool := h.kind == kindCardRead && s.declinesRead (byteAt b 0)

/-- A ticket body has been read: TAKEN is written and the in-flight mark set, or a declined CARD_READ is left POSTED (R174, R177). A slot whose mark a
ticket command has set since (log entry 3) is not acted on, and the scan goes on (R173). -/
def State.bodyRead (slot : Nat) (b : List Byte) (s : State) : State :=
  match s.exch.scan with
  | .taking left fence (some c) =>
    if s.exch.inFlight.contains slot then s.nextTake left fence
    else if s.offerDeclined c.header b then
      s.nextTake left (if c.header.order == 0 then fence else c.header.order :: fence)
    else
      (s.modExch fun x =>
        { x with
          scan := .taking left fence (some { c with body := some b })
          inFlight := slot :: x.inFlight }).request (.taken slot)
        (s.slotAddress slot + 1) 1 (some [2#8])
  | _ => s

/-- The TAKEN write is acknowledged: the ticket is handed on, a CARD_READ with what its slot's checks make of it now, or, when no block owns its kind,
ended at the take (R174, R14, R56). -/
def State.takenWritten (s : State) : State :=
  match s.exch.scan with
  | .taking left fence (some c) =>
    let h := c.header
    let b := c.body.getD []
    let s := if h.kind == kindOrderOpen then s else s.touchAtTake h.order
    let s := if h.owned then s.modExch fun x => { x with handed := x.handed ++ [Handed.mk h b s.clock (s.checkAtTake h b)] }
      else s.endTicket h.ticket h.kind .badKind 0
    s.nextTake left fence
  | _ => s

/-! ## The part state (R184 to R187) -/

/-- The part enters STOPPING (R184, R186); the slots' reads end (R68). -/
def State.enterStopping (s : State) : State := (s.modExch fun x => { x with part := .stopping }).stopReads

/-- The part enters HALTED (R187): no scan, no take, no completion, no record; the reads end (R68). Of a reading of the setup block that waits for room,
a RUN's is dropped with no SETTINGS outcome, and a REFRESH_SETTINGS's is still applied (DESIGN CHOICE, log entry 80). -/
def State.halt (why : HaltCause) (s : State) : State :=
  let s := s.modExch fun x =>
    { x with
      part := .halted
      haltCause := why
      scan := .idle
      rescanOwed := false
      scanTimer := none
      logWriter := .idle
      writer := .idle
      setupReading := none
      setupReady := match x.setupReady with
        | some r => if r.cause == .run then none else some r
        | none => none }
  (s.attend .halt).stopReads

/-- A print's start sequence is in course, and waits for room (R120, R136). -/
def Act.startsPrint : Act → Bool
  | .grant _ _ | .grantAnswer _ _ _ | .printStart _ _ => true
  | _ => false

/-- A request handed by the order table waits behind another event of the tender link controller (R138). -/
def Act.handsRequest : Act → Bool
  | .handTender _ => true
  | _ => false

/-- Every block is quiet for the STOPPING test (R186). A print whose start was begun before the STOP counts as under way (DESIGN CHOICE, log entry
52). -/
def State.allQuiet (s : State) : Bool :=
  s.exch.scan == .idle && s.exch.inFlight.isEmpty
    && (slotNumbers.all fun n => (s.slots.get n).inFlight.isNone)
    && s.sched.zero.access == .none && s.sched.one.access == .none
    && s.toneLoads.isEmpty && s.renderers.zero.proof.isNone && s.renderers.one.proof.isNone
    && s.ports.zero.record.isNone && s.ports.one.record.isNone
    && s.tender.outstanding.isNone
    && (s.tender.loopOn || (s.tender.requests.isEmpty && !(s.waiting.any fun j => j.act.handsRequest)))
    && s.priceLoads.isEmpty
    && !(s.waiting.any fun j => j.act.startsPrint)

/-- In STOPPING the part enters STOPPED once every block is quiet (R186). -/
def State.stoppingTest (s : State) : State :=
  if s.exch.part == .stopping && s.allQuiet then s.modExch fun x => { x with part := .stopped } else s

/-- The setup block is read (R171). -/
def State.readSetupBlock (why : SetupCause) (s : State) : State :=
  (s.modExch fun x => { x with setupReading := some why }).request .setup s.exchBase 1024 none

/-- CONTROL RUN (R184, R185). -/
def State.controlRun (s : State) : State :=
  match s.exch.part with
  | .reset => (s.modExch fun x => { x with part := .starting, fromStopped := false }).readSetupBlock .run
  | .stopped => (s.modExch fun x => { x with part := .starting, fromStopped := true }).readSetupBlock .run
  | .starting | .running | .stopping | .halted => s

/-- CONTROL STOP (R184). -/
def State.controlStop (s : State) : State :=
  match s.exch.part with
  | .running => s.enterStopping
  | .starting => s.modExch fun x => { x with stopRemembered := true }
  | .reset | .stopping | .stopped | .halted => s

/-! ## Settings (R171, R172, R185) -/

/-- The setup block has been read: its values are clamped, and wait to be applied (R171, R172). -/
def State.setupRead (b : List Byte) (s : State) : State :=
  match s.exch.setupReading with
  | none => s
  | some why =>
    let both := why == .run && !s.exch.fromStopped
    let r := readSetup both b s.settings
    s.modExch fun x =>
      { x with setupReading := none, setupReady := some { cause := why, bothClasses := both, settings := r.1, clamped := r.2 } }

/-- The next REFRESH_SETTINGS is served when no reading is in course (R172). A halt lets no new access to the region start (R187, R193). -/
def State.nextRefresh (s : State) : State :=
  match s.exch.refreshes with
  | t :: rest =>
    if s.exch.setupReading.isNone && s.exch.setupReady.isNone && s.exch.part != .halted then
      (s.modExch fun x => { x with refreshes := rest }).readSetupBlock (.refresh t)
    else s
  | [] => s

/-- REFRESH_SETTINGS (R172). -/
def State.refreshSettings (t : Ticket) (s : State) : State :=
  (s.modExch fun x => { x with refreshes := x.refreshes ++ [t] }).nextRefresh

/-- At the first RUNNING after a reset the presence detectors, the watching, the listening, the sampling and, under AUTO, the report timer
begin, and the renderers and the acceptor hold the settings read (R185, R47, R96, R116, R138, R157, R198). -/
def State.firstRunning (s : State) : State :=
  let s := s.modExch fun x => { x with ranOnce := true, logPos := 0 }
  let s := (s.modPort 0 fun p => { p with watching := true, heardAt := s.clock }).modPort 1 fun p =>
    { p with watching := true, heardAt := s.clock }
  let s := (s.modRend 0 fun r => { r with latched := s.settings.render.zero }).modRend 1 fun r =>
    { r with latched := s.settings.render.one }
  let s := s.modTender fun t => { t with listening := true }
  let s' : State := { s with cash := { s.cash with sampling := true, pulseValue := s.settings.pulseValue } }
  s'.startReportTimer

/-- The part enters RUNNING: the scan timer starts, a scan begins (or is owed, while one that STARTING began goes on) and held boundaries
are answered; a remembered STOP follows at once (R184, R185, R176). -/
def State.enterRunning (s : State) : State :=
  let s := s.modExch fun x =>
    { x with
      part := .running
      stopRemembered := false
      scanTimer := if x.settings.scanInterval == 0 then none else some s.clock }
  (s.scanTrigger).pushAll [.answerHeld 0, .answerHeld 1]

/-- A changed setting acts at once: the scan timer from the application, the notification test (R172, R181). -/
def State.settingsChanged (old : Settings) (s : State) : State :=
  let s := if old.scanInterval != s.settings.scanInterval && s.exch.part != .starting && s.exch.mayScan then
      s.modExch fun x => { x with scanTimer := if x.settings.scanInterval == 0 then none else some s.clock }
    else s
  if old.notify != s.settings.notify || old.linger != s.settings.linger then
    if 0 < s.exch.unannounced then s.notifyTest else s
  else s

/-- The settings read are applied with their SETTINGS outcome (R172); from STARTING the part enters RUNNING (R185), and a REFRESH_SETTINGS
ends. A threshold or linger that a RUN from STOPPED has changed is tested at once as well (R172, R181; DESIGN CHOICE, log entry 79). -/
def State.settingsApplied (s : State) : State :=
  match s.exch.setupReady with
  | none => s
  | some r =>
    let old := s.settings
    let s := s.modExch fun x => { x with settings := r.settings, setupReady := none }
    match r.cause with
    | .run =>
      let s := s.emit (.settings (!r.bothClasses) false r.clamped) 0 0 0
      let s := s.settingsChanged old
      let s := if r.bothClasses then s.firstRunning else s
      let stop := s.exch.stopRemembered
      let s := s.enterRunning
      (if stop then s.enterStopping else s).nextRefresh
    | .refresh t =>
      let n := r.clamped.length
      let s := s.emit (.settings true true r.clamped) 0 0 t.seq
      let s := s.settingsChanged old
      (s.endTicket t kindRefreshSettings .ok (n + if 0 < n then clampedFlag else 0)).nextRefresh

/-! ## The ticket writer (R175) -/

/-- The part states in which completions are served (R175). -/
def PartState.servesTickets : PartState → Bool
  | .running | .stopping | .stopped => true
  | .reset | .starting | .halted => false

/-- The ticket writer takes a place for the TICKET_DONE of the head, and writes the result (R175). -/
def State.ticketPlace (s : State) : State :=
  match s.exch.writer, s.exch.completions with
  | .wantPlace, c :: _ =>
    if s.exch.part.servesTickets then
      (s.modExch fun x => { x with writer := .result, reservedPlaces := x.reservedPlaces + 1 }).request (.result c.ticket.slot)
        (s.slotAddress c.ticket.slot + 8) 12 (some (completionBytes c.code c.detail s.clock))
    else s.modExch fun x => { x with writer := .idle }
  | .wantPlace, [] => s.modExch fun x => { x with writer := .idle }
  | _, _ => s

/-- The result write is acknowledged: state DONE is written (R175). -/
def State.resultWritten (slot : Nat) (s : State) : State :=
  (s.modExch fun x => { x with writer := .doneState }).request (.doneState slot) (s.slotAddress slot + 1) 1 (some [3#8])

/-- The DONE write is acknowledged: owner SYSTEM is written (R175). -/
def State.doneWritten (slot : Nat) (s : State) : State :=
  (s.modExch fun x => { x with writer := .owner }).request (.owner slot) (s.slotAddress slot) 1 (some [0#8])

/-- The owner write is acknowledged: the mark is cleared, and the TICKET_DONE outcome fills its place (R175). -/
def State.ownerWritten (s : State) : State :=
  match s.exch.completions, s.exch.reservedPlaces with
  | c :: rest, places + 1 =>
    let s := s.modExch fun x =>
      { x with
        completions := rest
        writer := .idle
        reservedPlaces := places
        inFlight := x.inFlight.filter (· != c.ticket.slot) }
    s.emit (.ticketDone c.ticket.slot c.kind c.code c.detail) 0 c.ticket.order c.ticket.seq
  | _, _ => s

/-! ## The log writer (R179, R180) -/

/-- The part states in which the log is written (R179). -/
def Exchange.logs (x : Exchange) : Bool :=
  match x.part with
  | .running | .stopping | .stopped => true
  | .starting => x.fromStopped
  | .reset | .halted => false

/-- The log writer takes up the oldest outcome: the mark at the write position is read (R179). -/
def State.startRecord (s : State) : State :=
  (s.modExch fun x => { x with logWriter := .mark }).request .mark s.recordAddress 1 none

/-- The fields of the oldest outcome are written (R179). -/
def State.writeRecord (s : State) : State :=
  match s.exch.outcomes with
  | [] => s.modExch fun x => { x with logWriter := .idle }
  | r :: _ => (s.modExch fun x => { x with logWriter := .record }).request .record (s.recordAddress + 1) 31 (some r.bytes)

/-- The mark read again at a scan: the wait ends or goes on, and the scan goes on to the ticket table (R176, R180). -/
def State.markReread (free : Bool) (s : State) : State :=
  let s := if free then s.writeRecord else s.modExch fun x => { x with logWriter := .waiting }
  if s.exch.scansTickets then s.readHeader 0 [] else s.endScan

/-- The fresh mark has been read (R179, R180). -/
def State.markRead (b : List Byte) (s : State) : State :=
  let free := byteAt b 0 == 0
  match s.exch.logWriter with
  | .mark =>
    if free then s.writeRecord
    else ((s.modExch fun x => { x with logWriter := .waiting }).attend .logFull).count .logFullWaits 1
  | .rereading => s.markReread free
  | _ => s

/-- The record write is acknowledged: the fresh mark is written as 1 (R179). -/
def State.recordWritten (s : State) : State :=
  (s.modExch fun x => { x with logWriter := .freshMark }).request .freshMark s.recordAddress 1 (some [1#8])

/-- The notice of a written record to the engine port that produced a PRINT SPOILED (R179, R126). -/
def State.spoilNotice (r : OutcomeRecord) (s : State) : State :=
  match r.payload with
  | .printEnd true .. =>
    match engineOf r.unit with
    | some e => s.push (.spoilWritten e)
    | none => s
  | _ => s

/-- The fresh mark write is acknowledged: the outcome leaves the queue, the position moves on, the count rises and is tested (R179, R181). -/
def State.freshMarkWritten (s : State) : State :=
  match s.exch.outcomes with
  | [] => s.modExch fun x => { x with logWriter := .idle }
  | r :: rest =>
    let s := s.modExch fun x =>
      { x with
        logWriter := .idle
        outcomes := rest
        logPos := (x.logPos + 1) % x.settings.logSize
        unannounced := x.unannounced + 1
        firstUnannounced := if x.unannounced == 0 then s.clock else x.firstUnannounced }
    (s.notifyTest).spoilNotice r

/-! ## The ends of the exchange clients' requests (R193) -/

/-- A memory error of an exchange client halts the part; the ticket writer's place is given back (R175, R187, R193). -/
def State.exchangeError (tag : ReqTag) (s : State) : State :=
  match tag with
  | .setup => s.halt .setup
  | .header _ | .body _ | .taken _ => s.halt .ticket
  | .result _ | .doneState _ | .owner _ =>
    (s.modExch fun x => { x with reservedPlaces := x.reservedPlaces - 1 }).halt .ticket
  | .mark | .record | .freshMark => s.halt .log
  | _ => s

/-- A request of an exchange client has ended without error. -/
def State.exchangeDone (tag : ReqTag) (b : List Byte) (s : State) : State :=
  match tag with
  | .setup => s.setupRead b
  | .header slot => s.headerRead slot b
  | .body slot => s.bodyRead slot b
  | .taken _ => s.takenWritten
  | .result slot => s.resultWritten slot
  | .doneState slot => s.doneWritten slot
  | .owner _ => s.ownerWritten
  | .mark => s.markRead b
  | .record => s.recordWritten
  | .freshMark => s.freshMarkWritten
  | _ => s

/-! ## The register window (R169, R170, R182, R183) -/

/-- A write to ATTN_CAUSE: a 1 clears its cause (R182). -/
def State.writeAttnCause (v : Word32) (s : State) : State :=
  s.modExch fun x => x.setAttention (x.attnCause &&& ~~~(v.setWidth 7)) x.attnEnable

/-- A write to ATTN_ENABLE (R183). -/
def State.writeAttnEnable (v : Word32) (s : State) : State :=
  s.modExch fun x => x.setAttention x.attnCause (v.setWidth 7)

/-- A write to EXCH_BASE_LOW: in RESET only, and not to its low 16 bits (R169). -/
def State.writeBaseLow (v : Word32) (s : State) : State :=
  if s.exch.part == .reset then s.modExch fun x => { x with baseLow := v &&& 0xFFFF0000#32 } else s

/-- A write to EXCH_BASE_HIGH: in RESET only (R169). -/
def State.writeBaseHigh (v : Word32) (s : State) : State :=
  if s.exch.part == .reset then s.modExch fun x => { x with baseHigh := v } else s

/-! ## Resets (R188 and the reset rule of each block) -/

/-- The reset state with what is outside the part: the commands that wait, and the levels of its inputs (log entry 9). -/
def State.afterReset (s : State) : State :=
  let r : State := State.reset
  { r with
    pending := s.pending
    slots := ⟨{ detect := s.slots.zero.detect }, { detect := s.slots.one.detect }, { detect := s.slots.two.detect },
              { detect := s.slots.three.detect }⟩
    cash := { lineHigh := s.cash.lineHigh } }

/-- A soft reset or a link reset keeps EXCH_BASE (R169, R188), and the kiosk processor's bus master enable (log entry 9). -/
def State.softReset (s : State) : State :=
  s.afterReset.modExch fun x =>
    { x with baseLow := s.exch.baseLow, baseHigh := s.exch.baseHigh, busMaster := s.exch.busMaster }

end Sys2Proof.Machine
end

