-- ==== Sys2Proof/Machine/Prices.lean ====
section
/-! DEFINITION. LOAD_PRICES at the quote and settlement unit (R31, R32). -/

namespace Sys2Proof.Machine

/-- The image of the head of the LOAD_PRICES list is asked for (R31). -/
def State.startPrices (s : State) : State :=
  match s.priceLoads with
  | [] => s
  | p :: _ => s.request .prices p.address 768 none

/-- LOAD_PRICES (R31): the address check, and the read, behind those taken before. -/
def State.loadPrices (t : Ticket) (address : Nat) (s : State) : State :=
  if Config.addressLimit < address + 768 then s.endTicket t kindLoadPrices .badField 32
  else
    let s' : State := { s with priceLoads := s.priceLoads ++ [{ ticket := t, address := address }] }
    if s.priceLoads.isEmpty then s'.startPrices else s'

/-- The head of the LOAD_PRICES list has ended, and the next is read (R31). -/
def State.pricesLeave (s : State) : State := State.startPrices { s with priceLoads := s.priceLoads.tail }

/-- The image has been read: it replaces the table, with the number of valid products in the detail, or refuses the ticket (R32). -/
def State.pricesRead (image : List Byte) (s : State) : State :=
  match s.priceLoads with
  | [] => s
  | p :: _ =>
    match imageRefusal s.products s.useCounts image 32 0 with
    | some (code, k) => (s.endTicket p.ticket kindLoadPrices code k).pricesLeave
    | none =>
      let new := imageProducts image
      let s' : State := { s with products := new }
      (s'.endTicket p.ticket kindLoadPrices .ok (new.filter Product.valid).length).pricesLeave

/-- A memory error on the image: the live table is kept (R31). -/
def State.pricesFailed (s : State) : State :=
  match s.priceLoads with
  | [] => s
  | p :: _ => (s.endTicket p.ticket kindLoadPrices .memoryError 0).pricesLeave

end Sys2Proof.Machine
end

