-- ==== Sys2Proof/Machine/Render.lean ====
section
/-! DEFINITION. The line renderers and the tone store (Line Rendering): the pulse computation, the source ring, LOAD_TONE and the proof
run's lines. The engine's side of a proof run is in Machine/Engine.lean. -/

namespace Sys2Proof.Machine

/-! ## The pulse computation (R106 to R109) -/

/-- The base pulse count of a density under a pass gain (R106). -/
def basePulses (density gain : Nat) : Nat := (density * gain + 512) / 1024

/-- The trim factor of a line: the quotient is truncated toward zero, the factor clamped to 128 to 384 (R107). -/
def trimFactor (tRef t slope : Nat) : Nat :=
  let q := Int.tdiv (((tRef : Int) - (t : Int)) * (slope : Int)) 16
  (max 128 (min 384 (256 + q))).toNat

/-- The trimmed pulses (R107). -/
def trimmedPulses (base factor : Nat) : Nat := (base * factor + 128) / 256

/-- The pulse count after the history correction, clamped to 0 and the pass limit (R108). -/
def correctedPulses (trimmed heat history limit : Nat) : Nat := min limit (trimmed - heat * history / 256)

/-- The heat history after a line, saturated at 4,095 (R108). -/
def heatAfter (heat decay weight pulses : Nat) : Nat := min 4095 (heat - heat * decay / 256 + pulses * weight)

/-- The gain and the pulse limit of a colour pass (R97). -/
def RenderSet.gainOf (r : RenderSet) : Pass → Nat
  | .y => r.gainY
  | .m => r.gainM
  | .c => r.gainC
  | .o => 0

/-- The pulse limit of a colour pass (R97). -/
def RenderSet.limitOf (r : RenderSet) : Pass → Nat
  | .y => r.maxY
  | .m => r.maxM
  | .c => r.maxC
  | .o => 0

/-- The number of a pass in print order (R111), which is a colour's place in a profile too. -/
def Pass.number : Pass → Nat
  | .y => 0 | .m => 1 | .c => 2 | .o => 3

/-- The pass after a pass (R115). -/
def Pass.next : Pass → Option Pass
  | .y => some .m
  | .m => some .c
  | .c => some .o
  | .o => none

/-- The input value of a pixel in a colour pass (R106). -/
def inputValue (p : Pass) (red green blue : Byte) : Nat :=
  match p with
  | .y => 255 - blue.toNat
  | .m => 255 - green.toNat
  | .c => 255 - red.toNat
  | .o => 0

/-- The input values of a source line, dot 0 first: pixel i at byte 3i (R102). -/
def inputValues (p : Pass) : List Byte → List Nat
  | r :: g :: b :: l => inputValue p r g b :: inputValues p l
  | _ => []

/-- One dot of a colour line: its pulse count and its new heat history (R106 to R108). -/
def renderDot (r : RenderSet) (p : Pass) (table : List Nat) (factor : Nat) (v heat : Nat) : Nat × Nat :=
  let pulses := correctedPulses (trimmedPulses (basePulses (table.getD v 0) (r.gainOf p)) factor) heat r.history (r.limitOf p)
  (pulses, heatAfter heat r.decay r.weight pulses)

/-- The dots of a colour line, each from its own heat history (R108). -/
def renderDots (r : RenderSet) (p : Pass) (table : List Nat) (factor : Nat) : List Nat → List Nat → List (Nat × Nat)
  | v :: vs, h :: hs => renderDot r p table factor v h :: renderDots r p table factor vs hs
  | _, _ => []

/-- A line of the overcoat (R109). -/
def overcoatLine (po : Nat) (finish : Finish) (n : Nat) : List Nat :=
  (List.range Config.dots).map fun i =>
    match finish with
    | .glossy => po
    | .matte => if (n + i) % 2 == 0 then po else po / 2

/-! ## Reservations and the load list (R99 to R101) -/

/-- A profile is barred while a ticket for it is in the load list (R99). -/
def State.barred (s : State) (profile : Nat) : Bool := s.toneLoads.any fun t => t.profile == profile

/-- A reservation of a profile is held on either engine (R99). -/
def State.profileHeld (s : State) (profile : Nat) : Bool :=
  s.renderers.zero.reserved == some profile || s.renderers.one.reserved == some profile

/-- A reservation taken (R101). -/
def State.reserve (e : Fin 2) (profile : Nat) (s : State) : State := s.modRend e fun r => { r with reserved := some profile }

/-- A reservation released: the head of the load list may now start (R101, R99). -/
def State.releaseProfile (e : Fin 2) (s : State) : State :=
  (s.modRend e fun r => { r with reserved := none }).push .toneHead

/-- The head of the load list starts its read once no reservation of its profile is held (R99, R100). -/
def State.toneHead (s : State) : State :=
  match s.toneLoads with
  | [] => s
  | t :: l =>
    if t.reading || s.profileHeld t.profile then s
    else State.request .tone t.address 512 none { s with toneLoads := { t with reading := true } :: l }

/-- LOAD_TONE (R99). Of several bad fields the one with the lowest detail is reported (DESIGN CHOICE, log entry 49). -/
def State.loadTone (t : Ticket) (profile colour address : Nat) (s : State) : State :=
  if 3 < profile then s.endTicket t kindLoadTone .badField 1
  else if 2 < colour then s.endTicket t kindLoadTone .badField 2
  else if Config.addressLimit < address + 512 then s.endTicket t kindLoadTone .badField 3
  else
    State.push .toneHead
      { s with toneLoads := s.toneLoads ++ [{ ticket := t, profile := profile, colour := colour, address := address }] }

/-- The entries of a tone table image (12.5). -/
def toneImage (b : List Byte) : List Nat := (List.range 256).map fun k => field b (2 * k) 2

/-- The head of the load list leaves it; its profile may be free, and the next ticket becomes the head (R100). -/
def State.toneLeaves (profile : Nat) (s : State) : State :=
  let s := { s with toneLoads := s.toneLoads.tail }
  let s := if s.barred profile then s else s.pushAll [.profileFreeAt 0 profile, .profileFreeAt 1 profile]
  s.push .toneHead

/-- The tone image has been read: the table is replaced in one step, with its entries clamped (R100). -/
def State.toneRead (b : List Byte) (s : State) : State :=
  match s.toneLoads with
  | [] => s
  | t :: _ =>
    let read := toneImage b
    let clamped := (read.filter fun v => decide (1023 < v)).length
    let s := { s with tones := s.tones.set (3 * t.profile + t.colour) (read.map fun v => min v 1023) }
    (s.endTicket t.ticket kindLoadTone .ok (clamped + if 0 < clamped then clampedFlag else 0)).toneLeaves t.profile

/-- A memory error on the tone image: the old table is kept (R100). -/
def State.toneFailed (s : State) : State :=
  match s.toneLoads with
  | [] => s
  | t :: _ => (s.endTicket t.ticket kindLoadTone .memoryError 0).toneLeaves t.profile

/-! ## The line fetcher (R102) -/

/-- The fetch position after a line of a print of `lines` lines; none for DONE (R102). -/
def nextFetch (lines : Nat) (p : Pass) (n : Nat) : Option (Pass × Nat) :=
  if n + 1 < lines then some (p, n + 1)
  else
    match p with
    | .y => some (.m, 0)
    | .m => some (.c, 0)
    | _ => none

/-- A memory error has ended the renderer's proof run (R113). -/
def Renderer.proofFailed (r : Renderer) : Bool :=
  match r.proof with
  | some p => p.failed
  | none => false

/-- The fetcher starts the line at the fetch position when no line is in fetch and the ring has room (R102), but none for a proof that a memory
error has ended (R113). -/
def State.fetchStep (e : Fin 2) (s : State) : State :=
  let r := s.renderers.get e
  match r.inHand, r.fetchPos, r.inFetch with
  | some h, some (p, n), none =>
    if decide (r.ring.length < Config.ringPlaces) && !r.proofFailed then
      (s.modRend e fun r => { r with inFetch := some { pass := p, line := n }, fetchPos := nextFetch h.lines p n }).request
        (.source e) (h.image + Config.lineBytes * n) Config.lineBytes none
    else s
  | _, _, _ => s

/-- A print or proof that starts takes the renderer: settings latched, the fetch position at pass Y line 0 (R103, R112). A proof's start sets the skip
count to 0 as a print's does (DESIGN CHOICE, log entry 71). -/
def State.renderBegin (e : Fin 2) (a : Activity) (h : InHand) (s : State) : State :=
  (s.modRend e fun r =>
    { r with
      activity := a
      inHand := some h
      latched := s.settings.render.get e
      pass := none
      fetchPos := some (.y, 0)
      skip := 0
      ring := [] }).fetchStep e

/-- A print or proof that ends gives the renderer up, whatever its result; a line in fetch is discarded when it ends (R103, R113). The
current pass becomes none and the print in hand absent with the rest, after a proof as after a print (DESIGN CHOICE, log entry 60). A source line
still in fetch when a proof ends by a write error holds its ticket back no longer: its bursts end and it is discarded (DESIGN CHOICE, log entry 76). -/
def State.renderEnd (e : Fin 2) (s : State) : State :=
  (s.modRend e fun r =>
    { r with
      activity := .idle
      inHand := none
      pass := none
      fetchPos := none
      ring := []
      inFetch := r.inFetch.map fun f => { f with stale := true } }).releaseProfile e

/-- A pass starts: the heat history goes to 0 (R104). -/
def Renderer.passStart (p : Pass) (r : Renderer) : Renderer :=
  { r with pass := some p, lineIndex := 0, heat := List.replicate Config.dots 0 }

/-! ## Line requests (R104, R105) -/

/-- The tone table of a profile's colour. -/
def State.toneTable (s : State) (profile : Nat) (p : Pass) : List Nat := s.tones.getD (3 * profile + p.number) []

/-- A colour line computed from a good source line: its counts, and the renderer with its new heat history (R106 to R108). -/
def Renderer.colourLine (r : Renderer) (table : List Nat) (p : Pass) (t : Nat) (bytes : List Byte) : List Nat × Renderer :=
  let dots := renderDots r.latched p table (trimFactor r.latched.tRef t r.latched.slope) (inputValues p bytes) r.heat
  (dots.map Prod.fst, { r with heat := dots.map Prod.snd })

/-- 1,280 pulse counts of 0 (R105). -/
def zeroLine : List Nat := List.replicate Config.dots 0

/-- A failed line: 1,280 counts of 0 and its cause; the late lines counter rises (R105). -/
def State.failLine (e : Fin 2) (why : FailCause) (s : State) : List Nat × Option FailCause × State :=
  (zeroLine, some why, s.count (.lateLines e) 1)

/-- The renderer's answer to a line request: the counts, and the cause when the line failed (R104, R105). -/
def State.renderLine (e : Fin 2) (t : Nat) (s : State) : List Nat × Option FailCause × State :=
  let r := s.renderers.get e
  match r.pass, r.inHand with
  | some .o, some h =>
    (overcoatLine r.latched.overcoat h.finish r.lineIndex, none, s.modRend e fun r => { r with lineIndex := r.lineIndex + 1 })
  | some p, some h =>
    let fill := r.ring.length
    let noted : Renderer := { r with margin := min r.margin fill, lineIndex := r.lineIndex + 1 }
    match r.ring with
    | [] => (s.modRend e fun _ => { noted with skip := r.skip + 1 }).failLine e .late
    | l :: rest =>
      if l.good then
        let answer := Renderer.colourLine { noted with ring := rest } (s.toneTable h.profile p) p t l.bytes
        (answer.1, none, (s.modRend e fun _ => answer.2).fetchStep e)
      else ((s.modRend e fun _ => { noted with ring := rest }).fetchStep e).failLine e .fetchError
  | _, _ => (zeroLine, none, s)

/-! ## Proof runs (R110 to R113) -/

/-- The address of a proof's output line (R111). -/
def proofAddress (dest lines : Nat) (p : Pass) (n : Nat) : Nat := dest + (p.number * lines + n) * Config.proofLineBytes

/-- A proof with one more line handed to the mover: its next line, or complete after the last line of pass O (R112). -/
def Proof.advance (p : Proof) (lines : Nat) : Proof :=
  if p.line + 1 < lines then { p with line := p.line + 1, writing := true }
  else
    match p.pass.next with
    | some q => { p with pass := q, line := 0, writing := true }
    | none => { p with complete := true, writing := true }

/-- A proof's computed line is handed to the mover (R112). The renderer's line index stays 0 during a proof, whose lines Proof.line counts (DESIGN
CHOICE, log entry 34). The output write joins the line fetcher's list ahead of the source read for which the computed line has made room in the ring
(DESIGN CHOICE, log entry 86). -/
def State.writeProofLine (e : Fin 2) (p : Proof) (lines : Nat) (counts : List Nat) (s : State) : State :=
  let q := p.advance lines
  let s := s.request (.proofLine e) (proofAddress p.dest lines p.pass p.line) Config.proofLineBytes
    (some ((counts.map (leBytes 2)).flatten))
  (s.modRend e fun r =>
    let r := { r with proof := some q }
    if q.pass != p.pass then Renderer.passStart q.pass r else r).fetchStep e

/-- The next line of a proof, once its source line is at the head of the ring and the previous write is acknowledged (R112). -/
def State.proofStep (e : Fin 2) (s : State) : State :=
  let r := s.renderers.get e
  match r.proof, r.inHand with
  | some p, some h =>
    if p.waiting || p.writing || p.failed || p.complete then s
    else
      match p.pass, r.ring with
      | .o, _ => s.writeProofLine e p h.lines (overcoatLine r.latched.overcoat h.finish p.line)
      | _, [] => s
      | q, l :: rest =>
        let answer := Renderer.colourLine { r with ring := rest } (s.toneTable h.profile q) q p.temp l.bytes
        (s.modRend e fun _ => answer.2).writeProofLine e p h.lines answer.1
  | _, _ => s

/-- A proof's run starts once its profile is reserved; while the profile is barred it waits (R112). -/
def State.proofReserve (e : Fin 2) (s : State) : State :=
  let r := s.renderers.get e
  match r.proof, r.inHand with
  | some p, some h =>
    if s.barred h.profile then s.modRend e fun r => { r with proof := some { p with waiting := true } }
    else
      let s := (s.reserve e h.profile).renderBegin e .proof h
      (s.modRend e fun r => Renderer.passStart .y { r with proof := some { p with waiting := false } }).push (.proofStep e)
  | _, _ => s

/-- A memory error of a proof: no further line starts, and the run ends when no output write is with the mover (R113). -/
def State.proofFails (e : Fin 2) (s : State) : State :=
  match (s.renderers.get e).proof with
  | none => s
  | some p =>
    if p.failed then s
    else
      let s := s.modRend e fun r => { r with proof := some { p with failed := true } }
      if p.writing then s else s.push (.proofEnd e)

/-- A proof's output write has ended (R112, R113). -/
def State.proofWritten (e : Fin 2) (ok : Bool) (s : State) : State :=
  match (s.renderers.get e).proof with
  | none => s
  | some p =>
    let q := { p with writing := false, written := p.written + (if ok then 1 else 0), failed := p.failed || !ok }
    let s := s.modRend e fun r => { r with proof := some q }
    if q.failed || q.complete then s.push (.proofEnd e) else s.push (.proofStep e)

/-- A source line's read has ended: the line joins the ring GOOD or BAD, or is discarded (R102, R103, R105). -/
def State.lineFetched (e : Fin 2) (ok : Bool) (bytes : List Byte) (s : State) : State :=
  let r := s.renderers.get e
  match r.inFetch with
  | none => s
  | some f =>
    let s := s.modRend e fun r => { r with inFetch := none }
    if f.stale then s.fetchStep e
    else if r.activity == .proof && !ok then s.proofFails e
    else if 0 < r.skip then (s.modRend e fun r => { r with skip := r.skip - 1 }).fetchStep e
    else
      let s := (s.modRend e fun r => { r with ring := r.ring ++ [{ good := ok, bytes := if ok then bytes else [] }] }).fetchStep e
      if r.activity == .proof then s.push (.proofStep e) else s

end Sys2Proof.Machine
end

