-- ==== Sys2Proof/Machine/Mover.lean ====
section
/-! DEFINITION. The memory mover (Host Memory Access): clients, bursts, the grant order, and the reports to the clients. -/

namespace Sys2Proof.Machine

/-- The client's place in the circle (R189). -/
def ReqTag.place : ReqTag → Nat
  | .setup | .header _ | .body _ | .taken _ => 1
  | .result _ | .doneState _ | .owner _ => 2
  | .mark | .record | .freshMark => 3
  | .push _ | .pop _ => 4
  | .block n => 5 + n.val
  | .source e | .proofLine e => 9 + e.val
  | .prices | .tone => 11

/-- The head of a client's list (R189). -/
def Mover.headOf (m : Mover) (place : Nat) : Option Request := m.requests.find? fun r => r.tag.place == place

/-- A line fetcher is urgent (R191). -/
def State.urgent (s : State) (e : Fin 2) : Bool :=
  let r := s.renderers.get e
  r.activity == .print && decide (r.ring.length ≤ 4)
    && (match s.mover.headOf (9 + e.val) with | some q => q.tag == .source e | none => false)

/-- The places of the circle after a place, going round (R191). -/
def placesAfter (last : Nat) : List Nat := (List.range 11).map fun i => (last + i) % 11 + 1

/-- The next client, and whether the grant is urgent (R191). -/
def State.nextClient (s : State) : Option (Nat × Option (Fin 2)) :=
  let follow : Fin 2 := if s.mover.lastUrgent == 0 then 1 else 0
  if s.urgent follow then some (9 + follow.val, some follow)
  else if s.urgent s.mover.lastUrgent then some (9 + s.mover.lastUrgent.val, some s.mover.lastUrgent)
  else ((placesAfter s.mover.lastPlace).find? fun p => (s.mover.headOf p).isSome).map fun p => (p, none)

/-- The length of the next burst of a request: at most 512 bytes, not across a multiple of 4 KiB, not past its end (R190). -/
def Request.burst (r : Request) : Nat := min (min 512 (r.length - r.moved)) (4096 - (r.address + r.moved) % 4096)

/-- The next burst is granted (R191); with the part not enabled to master the bus it ends in error as soon as it is granted (R192). -/
def State.grantNext (s : State) : State :=
  match s.nextClient with
  | none => s
  | some (place, urgent) =>
    match s.mover.headOf place with
    | none => s
    | some r =>
      let g : Grant :=
        { place := place, address := r.address + r.moved, length := r.burst,
          write := r.write.map fun d => (d.drop r.moved).take r.burst, issued := s.clock }
      let s := s.modMover fun m =>
        { m with
          grant := some g
          lastPlace := if urgent.isSome then m.lastPlace else place
          lastUrgent := urgent.getD m.lastUrgent }
      if s.exch.busMaster then s else s.push .burstError

/-- A client's request has ended: what its chapter states (R193). The results of the exchange clients are not used while HALTED (R187). -/
def State.clientEnd (tag : ReqTag) (ok : Bool) (data : List Byte) (s : State) : State :=
  match tag with
  | .push e => s.push (.pushWritten e ok)
  | .pop e => s.push (.popRead e ok data)
  | .block n => if ok then s.blockWritten n else s.blockWriteFailed n
  | .source e => s.lineFetched e ok data
  | .proofLine e => s.proofWritten e ok
  | .prices => if ok then s.pricesRead data else s.pricesFailed
  | .tone => if ok then s.toneRead data else s.toneFailed
  | tag =>
    if s.exch.part == .halted then s
    else if ok then s.exchangeDone tag data
    else s.exchangeError tag

/-- The first request of a place changed. -/
def updateHead (place : Nat) (f : Request → Request) : List Request → List Request
  | [] => []
  | r :: l => if r.tag.place == place then f r :: l else r :: updateHead place f l

/-- The first request of a place removed. -/
def dropHead (place : Nat) : List Request → List Request
  | [] => []
  | r :: l => if r.tag.place == place then l else r :: dropHead place l

/-- The current grant's burst ends, with its data or in error (R192, R193). An ending names no burst, so data that come late, after their read has timed
out, end the burst that holds the grant by then (DESIGN CHOICE, log entry 81). -/
def State.finishBurst (result : BurstResult) (s : State) : State :=
  match s.mover.grant with
  | none => s
  | some g =>
    match s.mover.headOf g.place with
    | none => s.modMover fun m => { m with grant := none }
    | some r =>
      let s := s.modMover fun m => { m with grant := none }
      match result with
      | .failed => (s.modMover fun m => { m with requests := dropHead g.place m.requests }).clientEnd r.tag false []
      | .done data =>
        let got := if g.write.isSome then r.got else r.got ++ fit g.length data
        if r.moved + g.length < r.length then
          s.modMover fun m =>
            { m with requests := updateHead g.place (fun r => { r with moved := r.moved + g.length, got := got }) m.requests }
        else (s.modMover fun m => { m with requests := dropHead g.place m.requests }).clientEnd r.tag true got

/-- The moment a read burst without data ends in error; none for a write or without a grant (R192). -/
def Mover.timeoutAt (m : Mover) : Option Nat :=
  match m.grant with
  | some g => if g.write.isNone then some (g.issued + Config.burstWait) else none
  | none => none

/-- No data within 50 ms of the issue of a read burst (R192). -/
def State.burstTimedOut (s : State) : State :=
  match s.mover.timeoutAt with
  | some t => if reached s.clock t then s.finishBurst .failed else s
  | none => s

end Sys2Proof.Machine
end

