-- ==== Sys2Proof/Machine/Engine.lean ====
section
/-! DEFINITION. The engine ports (Print Engines): states and their outcomes, the boundary test, the course of a print and its end,
faults, pause, media and proof runs. -/

namespace Sys2Proof.Machine

/-! ## A change of state (R117) -/

/-- The states whose entry sets the ENGINE cause (R117). -/
def EngineState.alarms : EngineState → Bool
  | .noMedia | .fault | .held | .cooling => true
  | .offline | .idle | .printing | .blocked | .paused | .proof => false

/-- The ENGINE outcome of a port as it stands, with the state it had (R117). -/
def State.emitEngine (e : Fin 2) (cause : EngineCause) (prev : EngineState) (order seq : Nat) (s : State) : State :=
  let p := s.ports.get e
  s.emit (.engine cause prev p.state p.faultRecord p.media p.sheets p.ribbons p.lastTemp) e.val order seq

/-- An engine moves to another state, with its ENGINE outcome and the ENGINE cause (R117). A departure from OFFLINE or FAULT is made known
to the scheduler (R77, R118). -/
def State.portTo (e : Fin 2) (new : EngineState) (cause : EngineCause) (order seq : Nat) (s : State) : State :=
  let prev := (s.ports.get e).state
  let s := (s.modPort e fun p => { p with state := new }).emitEngine e cause prev order seq
  let s := s.attendIf (new.alarms || (s.settings.engineBoth && prev.alarms)) .engine
  if prev == .offline || prev == .fault then s.push .retryAwaiting else s

/-- A port that stands at no offered boundary and holds no waiting print. -/
def Port.unoffered (p : Port) : Port := { p with offered := false, testCause := none, waitingPrint := none }

/-- An engine leaves its boundary for a state: a waiting print is given up, an offered boundary withdrawn; no outcome when the engine is in
the state already (R117). -/
def State.portLeaves (e : Fin 2) (new : EngineState) (cause : EngineCause) (order seq : Nat) (s : State) : State :=
  let s := s.modPort e Port.unoffered
  if (s.ports.get e).state == new then s else s.portTo e new cause order seq

/-! ## The boundary test (R119) -/

/-- At rest (R119). -/
def EngineState.atRest : EngineState → Bool
  | .idle | .blocked | .noMedia | .cooling => true
  | .offline | .printing | .held | .paused | .fault | .proof => false

/-- The last temperature is at least t_stop; a temperature of none never is (R127). -/
def State.tooHot (s : State) (e : Fin 2) : Bool :=
  match (s.ports.get e).lastTemp with
  | some t => decide ((s.settings.render.get e).tStop ≤ t)
  | none => false

/-- The boundary is offered to the scheduler, or held while the part is not RUNNING, with the engine IDLE (R119, R78). In RUNNING the engine keeps
the state it had until the scheduler has answered (DESIGN CHOICE, log entry 61). -/
def State.offerBoundary (e : Fin 2) (cause : Option EngineCause) (seq : Nat) (s : State) : State :=
  let s := s.modPort e fun p => { p with offered := true, testCause := cause, waitingPrint := none }
  if s.exch.part == .running then s.push (.decide e)
  else if (s.ports.get e).state == .idle then s
  else (s.modPort e fun p => { p with testCause := none }).portTo e .idle (cause.getD .boundary) 0 seq

/-- The boundary test: the conditions of R119 in their order. `cause` is what the event that runs the test names. -/
def State.boundaryTest (e : Fin 2) (cause : Option EngineCause) (seq : Nat) (s : State) : State :=
  let p := s.ports.get e
  if p.record.isSome then s
  else if p.spoilUnwritten then s.portLeaves e .held (cause.getD .boundary) 0 seq
  else if p.pauseRequested then s.portLeaves e .paused (cause.getD .pause) 0 seq
  else if p.media.isNone || p.sheets == 0 || p.ribbons == 0 then s.portLeaves e .noMedia (cause.getD .boundary) 0 seq
  else if s.tooHot e then s.portLeaves e .cooling (cause.getD .temperature) 0 seq
  else s.offerBoundary e cause seq

/-- The engine stands at a boundary: its port offers it, or the engine is BLOCKED, or IDLE with no waiting print (R78, R119). -/
def Port.atBoundary (p : Port) : Bool :=
  p.record.isNone && (p.offered || p.state == .blocked || (p.state == .idle && p.waitingPrint.isNone))

/-- A decision may be made for the engine: it stands at a boundary, the part is RUNNING and the stack access NONE (R78, R119). -/
def State.canDecide (s : State) (e : Fin 2) : Bool :=
  s.exch.part == .running && (s.sched.get e).access == .none && (s.ports.get e).atBoundary

/-- The cause of the change a decision brings (R119, R120). -/
def Port.decisionCause (p : Port) (normal : EngineCause) : EngineCause := p.testCause.getD normal

/-- A boundary is offered, and no print is under way (R119, R78): also in PRINTING, at the boundary after a print. -/
def Port.standsOffered (p : Port) : Bool := p.offered && p.record.isNone

/-- At rest for a PAUSE, a MEDIA_SET and a READY that is too hot: in one of the states of R119, or with an offered boundary that the scheduler has not
answered (DESIGN CHOICE, log entry 61). -/
def Port.rests (p : Port) : Bool := p.state.atRest || p.standsOffered

/-- The boundary test that a print's end or a MEDIA_SET brings (R124, R133), in a state in which R119 has it: in the others the test that ends the
state follows. The outcome of the test that a MEDIA_SET brings carries its ticket's sequence (R178; log entry 11). -/
def State.boundaryAsked (e : Fin 2) (cause : Option EngineCause) (seq : Nat) (s : State) : State :=
  let p := s.ports.get e
  if p.rests || p.state == .printing then s.boundaryTest e cause seq else s

/-- The decision has ended with the engine in a state without a print: IDLE with no run, BLOCKED with its active run (R119). A decision begun in
RUNNING ends so after a STOP too. -/
def State.portRests (e : Fin 2) (new : EngineState) (s : State) : State :=
  let p := s.ports.get e
  if !p.atBoundary then s
  else
    let s := s.modPort e Port.unoffered
    if p.state == new then s else s.portTo e new (p.decisionCause .boundary) 0 0

/-! ## The start of a print (R120) -/

/-- Step 1 at a barred profile: the print becomes the waiting print, and the engine IDLE with cause PROFILE_WAIT (R120), also where the rule of the
event that ran the test names another cause (DESIGN CHOICE, log entry 38). -/
def State.printWaits (e : Fin 2) (p : Print) (s : State) : State :=
  let idle := (s.ports.get e).state == .idle
  let s := s.modPort e fun q => { q with offered := false, testCause := none, waitingPrint := some p }
  if idle then s else s.portTo e .idle .profileWait 0 0

/-- Step 3: the sheet and ribbon set are taken, the print record is filled, the renderer is told and FEED is sent (R120). -/
def State.printStart (e : Fin 2) (p : Print) (s : State) : State :=
  let q := s.ports.get e
  match s.findOrder p.order with
  | none => s.releaseProfile e
  | some o =>
    let item := o.items.getD p.item { product := 0, address := 0, copies := 0, staging := .unstaged }
    let lines := s.linesOf item.product
    let s := s.modPort e fun q =>
      { q.unoffered with
        sheets := q.sheets - 1
        ribbons := q.ribbons - 1
        phase := some .feed
        record := some { print := p, lines := lines }
        signalAt := s.clock
        command := some .feed }
    let s := s.renderBegin e .print { image := item.address, lines := lines, profile := p.profile, finish := p.finish }
    if q.state == .printing then s else s.portTo e .printing (q.decisionCause .printStart) p.order 0

/-! ## The end of a print (R124, R125) -/

/-- The scheduler's answer on how a spoiled copy goes on, from the active run as it stands (R82). -/
def Run.answer (r : Run) : CopyAnswer :=
  if r.ending then .endedRun else if 0 < r.reprintsLeft then .reprint else .noReprint

/-- The run after a print's end: `none` for a delivered print (R82). -/
def Run.afterPrint (r : Run) : Option CopyAnswer → Run
  | some .reprint => { r with reprint := true, reprintsLeft := r.reprintsLeft - 1 }
  | _ => { r with copy := r.copy + 1, reprint := false }

/-- The print is SPOILED at its end: a failed line, or a fault that ended it (R123, R125). -/
def PrintRecord.spoiled (r : PrintRecord) : Bool := decide (0 < r.failed) || r.faulted

/-- The print end step (R124). A change that the boundary test after a delivered print brings is not taken as one that ends the print, and its ENGINE
outcome carries order 0 (R117; DESIGN CHOICE, log entry 87). -/
def State.printEnd (e : Fin 2) (s : State) : State :=
  let q := s.ports.get e
  match q.record, q.phase with
  | some r, some .ended =>
    let run := (s.sched.get e).active
    let answer : Option CopyAnswer := if r.spoiled then some (match run with | some a => a.answer | none => .endedRun) else none
    let s := s.modSched e fun x => { x with active := x.active.map fun a => a.afterPrint answer }
    let s := s.push (.printReport r.print.order r.print.item answer)
    let s := s.renderEnd e
    let s := s.emit (.printEnd r.spoiled r.print.item r.print.copy r.print.reprint r.failed r.firstCause
      (if r.spoiled then q.faultRecord else none) answer q.sheets) e.val r.print.order 0
    let s := s.modPort e fun p =>
      { p with record := none, phase := none, spoilUnwritten := p.spoilUnwritten || r.spoiled, heardAt := s.clock }
    if q.faultRecord.isSome then s.portLeaves e .fault .fault r.print.order 0
    else if r.spoiled then s.portLeaves e .held .spoil r.print.order 0
    else s.push (.boundary e none 0)
  | _, _ => s

/-- A fault ends the print under way: the code is recorded, and the print end step follows at once (R125). -/
def State.faultPrint (e : Fin 2) (code : FaultCode) (s : State) : State :=
  (s.modPort e fun p =>
    { p with
      faultRecord := some code
      phase := some .ended
      record := p.record.map fun r => { r with faulted := true, firstCause := some (r.firstCause.getD .fault) } }).push
    (.printEnd e)

/-! ## Mechanism signals (R116, R121 to R123, R127, R128, R131) -/

/-- A signal that carries a temperature is applied: the port is watching and not in PROOF (R116, R135). -/
def Port.hears (p : Port) : Bool := p.watching && p.state != .proof

/-- A pass starts: the renderer is told, and PASS_BEGIN is sent (R121). -/
def State.beginPass (e : Fin 2) (p : Pass) (r : PrintRecord) (s : State) : State :=
  (s.modPort e fun q =>
    { q with phase := some (.pass p), record := some { r with lineIndex := 0 }, command := some (.passBegin p r.lines) }).modRend
    e (Renderer.passStart p)

/-- A READY during a print (R121, R122). -/
def State.readyInPrint (e : Fin 2) (r : PrintRecord) (ph : Phase) (s : State) : State :=
  match ph with
  | .feed => s.beginPass e .y r
  | .pass p =>
    if r.lineIndex < r.lines then s.faultPrint e .protocol
    else
      match p.next with
      | some q => s.beginPass e q r
      | none => s.modPort e fun q => { q with phase := some .eject, command := some .eject }
  | .eject => s
  | .ended => s

/-- A READY outside a print (R118, R127, R128). One of at least t_stop withdraws an offered boundary that the scheduler has not answered, and the engine
is COOLING (R127; DESIGN CHOICE, log entry 61). -/
def State.readyAtRest (e : Fin 2) (temp : Nat) (s : State) : State :=
  let set := s.settings.render.get e
  let p := s.ports.get e
  match p.state with
  | .offline => s.boundaryTest e (some .ready) 0
  | .cooling =>
    if temp ≤ set.tResume && temp < set.tStop then s.boundaryTest e (some .temperature) 0
    else if p.standsOffered && set.tStop ≤ temp then s.portLeaves e .cooling .temperature 0 0
    else s
  | .idle | .blocked => if set.tStop ≤ temp then s.portLeaves e .cooling .temperature 0 0 else s
  | .printing | .held | .noMedia | .paused =>
    if p.standsOffered && set.tStop ≤ temp then s.portLeaves e .cooling .temperature 0 0 else s
  | .fault | .proof => s

/-- READY (R116, R121). -/
def State.mechReady (e : Fin 2) (temp : Nat) (s : State) : State :=
  let p := s.ports.get e
  if !p.hears then s
  else
    let s := s.modPort e fun p => { p with lastTemp := some temp, heardAt := s.clock, signalAt := s.clock }
    match p.record, p.phase with
    | some r, some ph => s.readyInPrint e r ph
    | _, _ => s.readyAtRest e temp

/-- The fault record of a mechanism's code (R115, R116). -/
def faultOf : MechFaultCode → FaultCode
  | .jam => .jam
  | .ribbonBreak => .ribbonBreak
  | .coverOpen => .coverOpen
  | .heater => .heater

/-- A FAULT report (R125, R131). A further one in phase END, while the print end step waits for room, keeps the first code (DESIGN CHOICE, log entry
88). -/
def State.mechFault (e : Fin 2) (code : MechFaultCode) (s : State) : State :=
  let p := s.ports.get e
  if !p.hears then s
  else
    let s := s.modPort e fun p => { p with heardAt := s.clock, signalAt := s.clock }
    match p.record, p.phase with
    | some _, some .ended => s.modPort e fun p => { p with faultRecord := some (p.faultRecord.getD (faultOf code)) }
    | some _, some _ => s.faultPrint e (faultOf code)
    | _, _ =>
      if p.state == .fault then s
      else (s.modPort e fun p => { p with faultRecord := some (faultOf code) }).portLeaves e .fault .fault 0 0

/-- The line data of a request, with the failed line marked on the print (R121, R123). -/
def State.answerLine (e : Fin 2) (temp : Nat) (r : PrintRecord) (s : State) : State :=
  let answer := s.renderLine e temp
  let marked : PrintRecord := match answer.2.1 with
    | some why => { r with lineIndex := r.lineIndex + 1, failed := r.failed + 1, firstCause := some (r.firstCause.getD why) }
    | none => { r with lineIndex := r.lineIndex + 1 }
  answer.2.2.modPort e fun p => { p with record := some marked, lineData := answer.1 }

/-- LINE_REQUEST (R121, R122). -/
def State.mechLineRequest (e : Fin 2) (temp : Nat) (s : State) : State :=
  let p := s.ports.get e
  if !p.hears then s
  else
    let s := s.modPort e fun p => { p with lastTemp := some temp, signalAt := s.clock }
    match p.record, p.phase with
    | some r, some (.pass _) => if r.lineIndex < r.lines then s.answerLine e temp r else s.faultPrint e .protocol
    | some _, some .feed => s.faultPrint e .protocol
    | some _, some .eject => s.faultPrint e .protocol
    | _, _ => s

/-- EJECT_DONE (R121, R122). The print end step that it brings is the command PRINT_END_STEP. -/
def State.mechEjectDone (e : Fin 2) (temp : Nat) (s : State) : State :=
  let p := s.ports.get e
  if !p.hears then s
  else
    let s := s.modPort e fun p => { p with lastTemp := some temp, signalAt := s.clock }
    match p.record, p.phase with
    | some _, some .eject => s.modPort e fun p => { p with phase := some .ended }
    | some _, some .feed => s.faultPrint e .protocol
    | some _, some (.pass _) => s.faultPrint e .protocol
    | _, _ => s

/-- The states in which a silence moves an engine to OFFLINE (R118). -/
def EngineState.fallsSilent : EngineState → Bool
  | .idle | .blocked | .held | .cooling | .noMedia | .paused => true
  | .offline | .printing | .fault | .proof => false

/-- 1,000 ms with no READY or FAULT outside a print (R118). -/
def State.engineSilence (e : Fin 2) (s : State) : State :=
  let p := s.ports.get e
  if p.watching && p.state.fallsSilent && reached s.clock (p.heardAt + Config.engineSilence) then
    s.portLeaves e .offline .silent 0 0
  else s

/-- A print is under way and waits for a signal (R122). -/
def Port.awaitsSignal (p : Port) : Bool :=
  match p.record, p.phase with
  | some _, some .ended => false
  | some _, some _ => true
  | _, _ => false

/-- A gap of 2,000 ms with no signal during a print (R122). -/
def State.printSilence (e : Fin 2) (s : State) : State :=
  let p := s.ports.get e
  if p.awaitsSignal && reached s.clock (p.signalAt + Config.printGap) then s.faultPrint e .silent else s

/-! ## Notices of the renderer and the exchange controller (R101, R126) -/

/-- A profile has become free: an engine whose print waits for it runs the boundary test again, a proof that waits asks again (R120, R112).
R119 names no cause of its own for this test. -/
def State.profileFreeAt (e : Fin 2) (profile : Nat) (s : State) : State :=
  let r := s.renderers.get e
  let asks := match r.proof, r.inHand with
    | some p, some h => p.waiting && h.profile == profile
    | _, _ => false
  let s := if asks then s.push (.proofReserve e) else s
  match (s.ports.get e).waitingPrint with
  | some p =>
    if p.profile == profile then (s.modPort e fun q => { q with waitingPrint := none }).boundaryTest e none 0 else s
  | none => s

/-- The notice that a PRINT SPOILED record is in the log (R126). -/
def State.spoilWritten (e : Fin 2) (s : State) : State :=
  let held := (s.ports.get e).state == .held
  let s := s.modPort e fun p => { p with spoilUnwritten := false }
  if held then s.boundaryTest e (some .spoilWritten) 0 else s

/-! ## Tickets (R129 to R133, R110) -/

/-- ENGINE_CONTROL PAUSE (R129). -/
def State.pauseEngine (t : Ticket) (engine : Nat) (s : State) : State :=
  match engineOf engine with
  | none => s.endTicket t kindEngineControl .badField 1
  | some e =>
    let p := s.ports.get e
    if p.state == .paused && !p.standsOffered then s.endTicket t kindEngineControl .ok alreadyFlag
    else
      let s := s.modPort e fun p => { p with pauseRequested := true }
      let s := if p.rests then s.portLeaves e .paused .pause 0 t.seq else s
      s.endTicket t kindEngineControl .ok 0

/-- ENGINE_CONTROL RESUME (R130). -/
def State.resumeEngine (t : Ticket) (engine : Nat) (s : State) : State :=
  match engineOf engine with
  | none => s.endTicket t kindEngineControl .badField 1
  | some e =>
    let p := s.ports.get e
    if !p.pauseRequested then s.endTicket t kindEngineControl .ok alreadyFlag
    else
      let s := s.modPort e fun p => { p with pauseRequested := false }
      let s := if p.state == .paused then s.boundaryTest e (some .resume) t.seq else s
      s.endTicket t kindEngineControl .ok 0

/-- ENGINE_CONTROL RESET (R132). One in a state other than FAULT changes nothing and is not taken as an applied RESET, so it retries no awaiting list
(R77; DESIGN CHOICE, log entry 57). -/
def State.resetEngine (t : Ticket) (engine : Nat) (s : State) : State :=
  match engineOf engine with
  | none => s.endTicket t kindEngineControl .badField 1
  | some e =>
    if (s.ports.get e).state == .fault then
      ((s.modPort e fun p => { p with faultRecord := none }).portTo e .offline .reset 0 t.seq).endTicket t kindEngineControl .ok 0
    else s.endTicket t kindEngineControl .ok notFaultedFlag

/-- An engine's run count: queued runs, the active run, and the entries of its stack directory that are not void (R75). -/
def SchedEngine.runCount (x : SchedEngine) : Nat :=
  x.queue.length + (if x.active.isSome then 1 else 0) + (x.stack.filter fun d => !d.void).length

/-- MEDIA_SET (R133). -/
def State.setMedia (t : Ticket) (engine kind sheets ribbons : Nat) (s : State) : State :=
  match engineOf engine with
  | none => s.endTicket t kindMediaSet .badField 1
  | some e =>
    let p := s.ports.get e
    let runs := (s.sched.get e).runCount
    if 3 < kind then s.endTicket t kindMediaSet .badField 2
    else if p.state == .printing then s.endTicket t kindMediaSet .busy 0
    else if p.media != some kind && 0 < runs then s.endTicket t kindMediaSet .inUse runs
    else
      let n := min sheets Config.mediaLimit
      let clamped := Config.mediaLimit < sheets || Config.mediaLimit < ribbons
      let s := s.modPort e fun p =>
        { p with media := some kind, sheets := n, ribbons := min ribbons Config.mediaLimit }
      let s := s.emitEngine e .mediaSet p.state 0 t.seq
      let s := s.endTicket t kindMediaSet .ok (n + if clamped then clampedFlag else 0)
      let s := if p.rests then s.push (.boundary e (some .mediaSet) t.seq) else s
      s.push .retryAwaiting

/-- The field of an ENGINE_PROOF that R110 refuses, by its detail; of several the one with the lowest (DESIGN CHOICE, log entry 49). -/
def proofFieldRefused (engine profile finish lines source dest : Nat) : Option Nat :=
  if 1 < engine then some 1
  else if 3 < profile then some 2
  else if 1 < finish then some 3
  else if lines == 0 || 2400 < lines then some 4
  else if Config.addressLimit < source + Config.lineBytes * lines then some 5
  else if Config.addressLimit < dest + 4 * lines * Config.proofLineBytes then some 6
  else none

/-- ENGINE_PROOF (R110, R135). -/
def State.startProof (t : Ticket) (engine profile finish temp lines source dest : Nat) (s : State) : State :=
  match proofFieldRefused engine profile finish lines source dest, engineOf engine with
  | some d, _ => s.endTicket t kindEngineProof .badField d
  | none, none => s.endTicket t kindEngineProof .badField 1
  | none, some e =>
    let st := (s.ports.get e).state
    if st == .idle || st == .noMedia then
      let s := s.portLeaves e .proof .proof 0 t.seq
      let s := s.modRend e fun r =>
        { r with
          proof := some { ticket := t, dest := dest, temp := temp, waiting := true }
          inHand := some { image := source, lines := lines, profile := profile, finish := if finish == 0 then .glossy else .matte } }
      s.push (.proofReserve e)
    else s.endTicket t kindEngineProof .busy 0

/-- A proof run ends: its ticket, its renderer, and the engine's move to OFFLINE (R112, R113, R135). The three are one step, which waits for the room of
the ENGINE outcome (DESIGN CHOICE, log entry 89). -/
def State.proofEnd (e : Fin 2) (s : State) : State :=
  let r := s.renderers.get e
  match r.proof, r.inHand with
  | some p, some h =>
    let s := if p.failed then s.endTicket p.ticket kindEngineProof .memoryError p.written
      else s.endTicket p.ticket kindEngineProof .ok (4 * h.lines)
    let s := (s.modRend e fun r => { r with proof := none }).renderEnd e
    s.portTo e .offline .proofEnd 0 0
  | _, _ => s

end Sys2Proof.Machine
end

