-- ==== Sys2Proof/Machine/Scheduler.lean ====
section
/-! DEFINITION. The print scheduler (Print Scheduling): placement, the boundary decision, the context stack, cancel and settlement, EVACUATE. -/

namespace Sys2Proof.Machine

/-! ## Outcomes and run ends (R83) -/

/-- A PRINT outcome of the scheduler, with the stack depth after the step (12.6). -/
def State.emitRun (e : Fin 2) (event : RunEvent) (kind : Nat) (cause : Option RunCause) (runs voids order : Nat) (s : State) : State :=
  s.emit (.printRun event kind cause runs voids (s.sched.get e).stack.length) e.val order 0

/-- The media kind loaded on an engine, which is the kind of its saved runs (R133 refuses a change while a run is held). -/
def State.loadedKind (s : State) (e : Fin 2) : Nat := (s.ports.get e).media.getD 0

/-- The reprint-given-up report of a saved run's reprint item (R83). -/
def State.giveUpReprint (n : Nat) (item : Option Nat) (s : State) : State :=
  match item with
  | some i => s.push (.reprintGivenUp n i)
  | none => s

/-- The item of a copy that awaits its reprint (R84). -/
def Run.reprintItem (r : Run) : Option Nat := if r.reprint then some r.item else none

/-- The run-end report: the quiet test of R21, and the retry of the awaiting list (R83, R77). -/
def State.runEndReport (n : Nat) (s : State) : State := s.pushAll [.quiet n 0, .retryAwaiting]

/-- The reprint-given-up reports of entries that leave a stack. -/
def State.giveUpReprints : List DirEntry → State → State
  | [], s => s
  | d :: l, s => State.giveUpReprints l (s.giveUpReprint d.order d.reprintItem)

/-- Void entries on top are discarded unread while the stack access is NONE; the freed positions bring the parking test (R87, R90). -/
def State.discardVoid (e : Fin 2) (s : State) : State :=
  let x := s.sched.get e
  let gone := x.stack.reverse.takeWhile DirEntry.void
  if x.access == .none && !gone.isEmpty then
    ((s.modSched e fun x => { x with stack := (x.stack.reverse.dropWhile DirEntry.void).reverse }).giveUpReprints gone).push (.parkTest e)
  else s

/-! ## Placement (R73 to R77) -/

/-- The lowest item of a kind at or after an index (R73). -/
def State.itemFrom (s : State) (o : Order) (kind start : Nat) : Option Nat :=
  (List.range o.items.length).find? fun i =>
    decide (start ≤ i) && (match o.items[i]? with | some x => s.mediaOf x.product == kind | none => false)

/-- A run of the order for a media kind exists on an engine (R74). -/
def State.hasRun (s : State) (n kind : Nat) : Bool :=
  engines.any fun e =>
    let x := s.sched.get e
    x.queue.any (fun r => r.order == n && r.kind == kind)
      || (match x.active with | some r => r.order == n && r.kind == kind | none => false)
      || (s.loadedKind e == kind && x.stack.any fun d => d.order == n && !d.void)

/-- A media kind of the order needs a run (R74). -/
def State.needsRun (s : State) (o : Order) (kind : Nat) : Bool :=
  (o.items.any fun i => s.mediaOf i.product == kind && decide (0 < i.openCopies)) && !s.hasRun o.number kind

/-- The states in which an order's runs are placed (R74, R77). -/
def OrderState.takesRuns : OrderState → Bool
  | .funded | .producing => true
  | .opened | .quoted | .funding | .cancelling | .settling | .unresolved => false

/-- The placements of an order: one for each media kind that needs a run, in ascending kind (R74). -/
def State.placeOrder (n : Nat) (retry : Bool) (excluded : Option (Fin 2)) (s : State) : State :=
  match s.findOrder n with
  | none => s
  | some o =>
    if o.state.takesRuns then
      s.pushAll ((([0, 1, 2, 3].filter fun k => s.needsRun o k).map fun k => Act.placeKind n k retry excluded) ++ [.placeDone n])
    else s

/-- An engine is a candidate for a media kind (R75). -/
def State.isCandidate (s : State) (e : Fin 2) (kind : Nat) (excluded : Option (Fin 2)) : Bool :=
  let p := s.ports.get e
  p.state != .offline && p.state != .fault && p.media == some kind && excluded != some e

/-- The candidates in the order they are tried: the smaller run count first, engine 0 on a tie (R75). -/
def State.candidates (s : State) (kind : Nat) (excluded : Option (Fin 2)) : List (Fin 2) :=
  let order : List (Fin 2) := if (s.sched.get 1).runCount < (s.sched.get 0).runCount then [1, 0] else [0, 1]
  order.filter fun e => s.isCandidate e kind excluded

/-- The engine a run is placed on: the first candidate with room in its queue (R75). -/
def State.chosenEngine (s : State) (kind : Nat) (excluded : Option (Fin 2)) : Option (Fin 2) :=
  (s.candidates kind excluded).find? fun e => decide ((s.sched.get e).queue.length < Config.runQueuePlaces)

/-- A run joins a queue by its class (R76). -/
def joinQueue (r : Run) (q : List Run) : List Run :=
  match r.cls with
  | .express => (q.filter fun x => x.cls == .express) ++ r :: (q.filter fun x => x.cls != .express)
  | .standard => q ++ [r]

/-- The run made at a placement (R71, R73, R75). It has 0 reprints left until its first grant loads them (R81; DESIGN CHOICE, log entry 85). -/
def State.newRun (s : State) (o : Order) (e : Fin 2) (kind : Nat) : Run :=
  let item := (s.itemFrom o kind 0).getD 0
  { order := o.number, engine := e, kind := kind, cls := o.cls, profile := o.profile, finish := o.finish, item := item,
    copy := match o.items[item]? with | some i => i.assigned | none => 0 }

/-- A decision that is wanted is held while a push or pop is in progress or the part is not RUNNING (R78). -/
def State.holdDecision (e : Fin 2) (s : State) : State := s.modSched e fun x => { x with heldDecision := true }

/-- A parking test that is wanted is held in the same way (R90, R78). -/
def State.holdTest (e : Fin 2) (s : State) : State := s.modSched e fun x => { x with heldTest := true }

/-- The decision of a run's arrival is held in the same way (R76, R78). -/
def State.holdArrival (e : Fin 2) (s : State) : State := s.modSched e fun x => { x with heldArrival := true }

/-- Nothing is held any more. -/
def SchedEngine.unheld (x : SchedEngine) : SchedEngine := { x with heldDecision := false, heldTest := false, heldArrival := false }

/-- The run is BLOCKED and awaits something: the parking test is for it (R90). -/
def Run.parks (r : Run) : Bool := r.state == .blocked && r.awaited.isSome

/-- A run is queued and the stack has room: a BLOCKED run is parked (R90). -/
def SchedEngine.mayPark (x : SchedEngine) : Bool := !x.queue.isEmpty && decide (x.stack.length < Config.stackPlaces)

/-- What the arrival of a run brings at an engine that stands at a boundary: its decision (R76, R78). A decision of an IDLE engine is made without a new
boundary test (DESIGN CHOICE, log entry 50). -/
def State.wake (e : Fin 2) (s : State) : State := if s.canDecide e then s.push (.arrival e) else s.holdArrival e

/-- The arrival of a run wakes an engine at a boundary that has no active run, or is BLOCKED (R76, R78). -/
def State.wakeEngine (e : Fin 2) (s : State) : State :=
  let p := s.ports.get e
  if p.atBoundary && ((s.sched.get e).active.isNone || p.state == .blocked) then s.wake e else s

/-- A boundary held unanswered is answered, and what an arrival, a notice or the end of a push or pop has brought meanwhile is acted on (R78, R90,
R95). -/
def State.answerHeld (e : Fin 2) (s : State) : State :=
  let p := s.ports.get e
  let x := s.sched.get e
  if p.offered || (p.state == .idle && p.waitingPrint.isNone) || x.heldDecision then s.push (.decide e)
  else if x.heldArrival then s.push (.arrival e)
  else if x.heldTest then s.push (.parkTest e)
  else s

/-- One placement: a run in the chosen engine's queue, or the awaiting list (R75 to R77). A retry that fails produces no outcome. A placement made
at an order's return from UNRESOLVED, at a loss (R88) or at an EVACUATE (R94) is no retry, and one that fails is reported again for an order that
stands on the list already (DESIGN CHOICE, log entry 51). -/
def State.placeKind (n kind : Nat) (retry : Bool) (excluded : Option (Fin 2)) (s : State) : State :=
  match s.findOrder n with
  | none => s
  | some o =>
    if !(o.state.takesRuns && s.needsRun o kind) then s
    else
      match s.chosenEngine kind excluded with
      | some e =>
        let r := s.newRun o e kind
        ((s.modSched e fun x => { x with queue := joinQueue r x.queue }).emitRun e .runPlaced kind none 0 0 n).wakeEngine e
      | none =>
        let s := s.modOrder n fun o => { o with awaitingEngine := true }
        let s := { s with awaiting := if s.awaiting.contains n then s.awaiting else s.awaiting ++ [n] }
        if retry then s else s.emit (.printRun .noEngine kind none 0 0 0) 0 n 0

/-- Awaiting engine is cleared, and the order leaves the list, once every media kind that needs a run has one (R75, R77). -/
def State.placeDone (n : Nat) (s : State) : State :=
  match s.findOrder n with
  | none => s
  | some o =>
    if o.state.takesRuns && !([0, 1, 2, 3].any fun k => s.needsRun o k) then
      (s.modOrder n fun o => { o with awaitingEngine := false }).dropAwaiting n
    else s

/-- The retry of the awaiting list, oldest first (R77). -/
def State.retryAwaiting (s : State) : State := s.pushAll (s.awaiting.map fun n => Act.place n true none)

/-! ## The context stack (R84 to R87) -/

/-- The address of a frame (R84). -/
def State.frameAddress (s : State) (e : Fin 2) (pos : Nat) : Nat := s.exchBase + 33792 + (3 * e.val + pos) * 64

/-- The directory entry of a run that is saved (R84, R86). -/
def Run.entry (r : Run) (saved : SavedAs) : DirEntry :=
  { order := r.order, check := checkWord r.frameWords, savedAs := saved, awaited := r.awaited, reprintItem := r.reprintItem }

/-- A push of the active run: its entry is made, and its frame is handed to the memory mover (R86). -/
def State.startPush (e : Fin 2) (r : Run) (saved : SavedAs) (s : State) : State :=
  let pos := (s.sched.get e).stack.length
  (s.modSched e fun x => { x with stack := x.stack ++ [r.entry saved], access := .push pos r saved, active := none }).request (.push e)
    (s.frameAddress e pos) 64 (some r.frame)

/-- A pop of the top entry: its frame is read (R87). -/
def State.startPop (e : Fin 2) (s : State) : State :=
  let pos := (s.sched.get e).stack.length - 1
  (s.modSched e fun x => { x with access := .pop pos }).request (.pop e) (s.frameAddress e pos) 64 none

/-! ## The boundary decision (R78 to R81, R90) -/

/-- A boundary is held unanswered while the part is not RUNNING, with the engine IDLE (R78, R119): an offered one, or that of a BLOCKED engine whose
run has left the active slot. -/
def State.holdOffer (e : Fin 2) (s : State) : State :=
  let p := s.ports.get e
  let x := s.sched.get e
  let left := p.state == .blocked && x.active.isNone && x.access == .none
  if s.exch.part != .running && p.record.isNone && ((p.offered && p.state != .idle) || left) then
    (s.modPort e fun p => { p with testCause := none, offered := true }).portTo e .idle (p.decisionCause .boundary) 0 0
  else s

/-- Something wanted of an engine can be held: it stands at a boundary, or its push or pop is in progress (R78). -/
def State.mayHold (s : State) (e : Fin 2) : Bool := (s.ports.get e).atBoundary || (s.sched.get e).access != .none

/-- A decision that cannot be made now is held (R78). -/
def State.deferDecision (e : Fin 2) (s : State) : State :=
  if s.mayHold e then (if (s.sched.get e).access == .none then s.holdOffer e else s).holdDecision e else s

/-- The start of a decision: the active run is ended, pushed as STACKED or kept (R79). -/
def State.decision (e : Fin 2) (s : State) : State :=
  if !s.canDecide e then s.deferDecision e
  else
    let s := s.modSched e SchedEngine.unheld
    let x := s.sched.get e
    match x.active with
    | none => s.push (.choose e)
    | some r =>
      if r.ending then s.push (.endActive e .cancelled)
      else if r.cls == .standard && (x.queue.any fun q => q.cls == .express) && decide (x.stack.length < Config.stackPlaces) then
        s.startPush e r .stacked
      else s.push (.hand e)

/-- The decision that a run's arrival brings (R76, R78). A BLOCKED run that awaits something is parked first, when the stack has room, and the choice of
R80 follows the push (R89, R90); otherwise the decision takes its steps from R79 on, so that a run that stays is handed again and asks for its grant
(R81). So a BLOCKED STANDARD run is saved as PARKED at an arrival, and as STACKED at any other decision that finds an EXPRESS run queued (DESIGN CHOICE,
log entries 59 and 73). -/
def State.arrival (e : Fin 2) (s : State) : State :=
  let x := s.sched.get e
  match x.active with
  | some r =>
    if !r.parks || r.ending then s.decision e
    else if !s.canDecide e then (if s.mayHold e then s.holdArrival e else s)
    else if x.mayPark then (s.modSched e SchedEngine.unheld).startPush e r .parked
    else s.decision e
  | none => s.decision e

/-- A queued run becomes the active run (R80). -/
def State.takeRun (e : Fin 2) (r : Run) (s : State) : State :=
  ((s.modSched e fun x => { x with queue := x.queue.erase r, active := some { r with state := .active } }).emitRun e .runActive r.kind
    none 0 0 r.order).push (.hand e)

/-- The choice of the engine's next active run (R80). -/
def State.choose (e : Fin 2) (s : State) : State :=
  let s := s.discardVoid e
  if !s.canDecide e then s.deferDecision e
  else
    let x := s.sched.get e
    match x.active, x.queue.find? (fun r => r.cls == .express), x.stack.getLast?, x.queue.head? with
    | some _, _, _, _ => s.push (.hand e)
    | none, some r, _, _ => s.takeRun e r
    | none, none, some d, some r => if d.savedAs == .stacked then s.startPop e else s.takeRun e r
    | none, none, some _, none => s.startPop e
    | none, none, none, some r => s.takeRun e r
    | none, none, none, none => s.push (.portIdle e)

/-- The print that the active run wants next (R81). -/
def Run.print (r : Run) : Print :=
  { order := r.order, item := r.item, copy := r.copy, reprint := r.reprint, profile := r.profile, finish := r.finish, kind := r.kind }

/-- The next print is handed to the engine port: the profile is reserved, or the print waits for it; with the reservation held the
grant is asked for (R81, R120). -/
def State.handPrint (e : Fin 2) (s : State) : State :=
  if !s.canDecide e then s.deferDecision e
  else
    match (s.sched.get e).active with
    | none => s.push (.choose e)
    | some r => if s.barred r.profile then s.printWaits e r.print else (s.reserve e r.profile).push (.grant e r.print)

/-- The active run waits for an item or for funding; the parking test follows (R81, R90). A decision that a STOP has overtaken makes no push: it ends
with the engine BLOCKED, and the test is held (R119, R136). -/
def State.blockActive (e : Fin 2) (w : Awaited) (s : State) : State :=
  let s := s.modSched e fun x => { x with active := x.active.map fun r => { r with state := .blocked, awaited := some w } }
  if s.canDecide e then s.push (.parkTest e) else (s.holdTest e).push (.portBlocked e)

/-- The run moves on to the next item of its media kind, or ends COMPLETED (R81, R73). -/
def State.nextItem (e : Fin 2) (r : Run) (s : State) : State :=
  match s.findOrder r.order with
  | none => s.push (.endActive e .completed)
  | some o =>
    match s.itemFrom o r.kind (r.item + 1) with
    | none => s.push (.endActive e .completed)
    | some i =>
      let copy := match o.items[i]? with | some x => x.assigned | none => 0
      (s.modSched e fun x => { x with active := some { r with item := i, copy := copy, reprint := false } }).push (.hand e)

/-- The grant's answer acts on the run (R81). A refusal releases the reservation (R101, R120). -/
def State.grantAnswered (e : Fin 2) (p : Print) (a : GrantAnswer) (s : State) : State :=
  match (s.sched.get e).active, a with
  | some r, .granted =>
    let left := if p.reprint then r.reprintsLeft else s.settings.reprintBudget
    (s.modSched e fun x => { x with active := some { r with state := .active, awaited := none, reprintsLeft := left } }).push
      (.printStart e p)
  | some r, .noCopy => (s.releaseProfile e).nextItem e r
  | some _, .notStaged => (s.releaseProfile e).blockActive e (.item p.item)
  | some _, .notFunded => (s.releaseProfile e).blockActive e .funding
  | some _, .noOrder => (s.releaseProfile e).push (.endActive e .completed)
  | none, _ => s.releaseProfile e

/-- The parking test: a BLOCKED active run is parked when a run is queued and the stack has room; else the decision ends with the
engine BLOCKED (R90). While no decision may be made, the test is held (R78). -/
def State.parkTest (e : Fin 2) (s : State) : State :=
  match (s.sched.get e).active with
  | some r =>
    if !r.parks || r.ending then s
    else if !s.canDecide e then (if s.mayHold e then s.holdTest e else s)
    else
      let s := s.modSched e fun x => { x with heldTest := false }
      if (s.sched.get e).mayPark then s.startPush e r .parked
      else s.push (.portBlocked e)
  | none => s

/-- The active run ends: its outcome, its reports, and the choice of the next run (R79, R81, R83). -/
def State.endActive (e : Fin 2) (cause : RunCause) (s : State) : State :=
  match (s.sched.get e).active with
  | none => s
  | some r =>
    let s := (s.modSched e fun x => { x with active := none }).emitRun e .runEnded r.kind (some cause) 1 0 r.order
    ((s.giveUpReprint r.order r.reprintItem).runEndReport r.order).push (.choose e)

/-! ## The end of a push or a pop (R86 to R88) -/

/-- The cause of a run's end that came while its frame was being written (R92, R93). -/
def State.lateEndCause (s : State) (n : Nat) : RunCause :=
  match s.findOrder n with
  | some o => if o.cancel.isSome then .cancelled else .completed
  | none => .completed

/-- The end of a push whose write was acknowledged (R86, R92): the event is that of the saved-as value as it stands then, STACKED for an entry that a
notice has unparked meanwhile (DESIGN CHOICE, log entry 21). A run ended meanwhile leaves its entry void, which the outcome's depth still counts
(DESIGN CHOICE, log entry 20). -/
def State.pushDone (e : Fin 2) (pos : Nat) (r : Run) (why : SavedAs) (s : State) : State :=
  let saved := match (s.sched.get e).stack[pos]? with
    | some d => d.savedAs
    | none => why
  let s := s.emitRun e (if saved == .parked then .runParked else .runPushed) r.kind none 0 0 r.order
  let s := s.modSched e fun x =>
    { x.unheld with
      stack := if r.ending then x.stack.modify pos fun d => { d with void := true } else x.stack }
  let s := s.discardVoid e
  (if r.ending then s.runEndReport r.order else s).push (.choose e)

/-- The end of a push whose write failed (R86, R92): the entry is removed and the run is active again, in the state it had. One that was to be
pre-empted goes on with R81, also where a boundary offered meanwhile has brought a decision that is held, which is dropped (DESIGN CHOICE, log entry
84). One that was to be parked stays BLOCKED, but for a decision or a parking test that its own notice (R91) or another event
has brought meanwhile (R78, R90). The outcome's depth counts the void entries that the step discards at its end (DESIGN CHOICE, log entry 20). -/
def State.pushFailed (e : Fin 2) (pos : Nat) (r : Run) (why : SavedAs) (s : State) : State :=
  let x := s.sched.get e
  let awaited := match x.stack[pos]? with
    | some d => d.awaited
    | none => r.awaited
  let s := s.modSched e fun x =>
    { x.unheld with stack := x.stack.take pos, active := some { r with awaited := awaited } }
  let s := (s.emitRun e .pushFailed r.kind none 0 0 r.order).discardVoid e
  if r.ending then s.push (.endActive e (s.lateEndCause r.order))
  else
    match why with
    | .stacked => s.push (.hand e)
    | .parked =>
      if awaited.isNone || x.heldDecision then s.push (.decide e)
      else if x.heldArrival then s.push (.arrival e)
      else if x.heldTest then s.push (.parkTest e)
      else s.push (.portBlocked e)

/-- The frame write of a push has ended (R86). -/
def State.pushWritten (e : Fin 2) (ok : Bool) (s : State) : State :=
  let x := s.sched.get e
  match x.access with
  | .push pos r why =>
    let s := s.modSched e fun x => { x with access := .none }
    if ok then s.pushDone e pos r why else s.pushFailed e pos r why
  | _ => s

/-- A run whose frame fails the pop check is lost, and its order placed again (R88). The outcome's depth counts the void entries that are discarded at
the end of the pop (R87; DESIGN CHOICE, log entry 20). -/
def State.loseRun (e : Fin 2) (d : DirEntry) (cause : RunCause) (s : State) : State :=
  let s := s.emitRun e .runLost (s.loadedKind e) (some cause) 1 0 d.order
  let s := ((s.giveUpReprint d.order d.reprintItem).discardVoid e).push (.quiet d.order 0)
  s.pushAll [.place d.order false none, .retryAwaiting, .choose e]

/-- The frame read of a pop has ended: the entry leaves the directory, and its run is restored, discarded or lost (R87, R88). A decision held
meanwhile is made (R78). -/
def State.popRead (e : Fin 2) (ok : Bool) (bytes : List Byte) (s : State) : State :=
  let x := s.sched.get e
  match x.access, x.stack.getLast? with
  | .pop _, some d =>
    let s := s.modSched e fun x => { x.unheld with access := .none, stack := x.stack.dropLast }
    if d.void then ((s.giveUpReprint d.order d.reprintItem).discardVoid e).push (.choose e)
    else if !ok then s.loseRun e d .memory
    else
      let w := frameOf bytes
      if framePasses w d then
        let r := runOfFrame e w
        let s := (s.modSched e fun x => { x with active := some r }).emitRun e .runResumed r.kind none 0 0 r.order
        (s.discardVoid e).push (if x.heldDecision || x.heldArrival then .decide e else .hand e)
      else s.loseRun e d .check
  | _, _ => s

/-! ## Notices of the order table (R91 to R93) -/

/-- A run whose awaited condition has been met awaits nothing (R91). -/
def Run.unblock (n : Nat) (w : Awaited) (r : Run) : Run :=
  if r.order == n && r.state == .blocked && r.awaited == some w then { r with awaited := none } else r

/-- An entry whose awaited condition has been met becomes STACKED (R91). -/
def DirEntry.unpark (n : Nat) (w : Awaited) (d : DirEntry) : DirEntry :=
  if d.order == n && d.savedAs == .parked && d.awaited == some w then { d with savedAs := .stacked, awaited := none } else d

/-- The notice that a condition of an order has been met, at one engine: an item has become STAGED, or the order has left UNRESOLVED for FUNDED or
PRODUCING. The engine's blocked run asks again, its parked entries are unparked (R91). The decision is made while the engine is BLOCKED (R78,
R129). -/
def State.noticeAt (e : Fin 2) (n : Nat) (w : Awaited) (s : State) : State :=
  let hit := match (s.sched.get e).active with
    | some r => r.order == n && r.state == .blocked && r.awaited == some w
    | none => false
  let s := s.modSched e fun x => { x with active := x.active.map (Run.unblock n w), stack := x.stack.map (DirEntry.unpark n w) }
  if hit && (s.ports.get e).atBoundary then
    if s.canDecide e then s.push (.decide e) else s.holdDecision e
  else s

/-- The places of a stack directory whose entries are made void at a cancel: those of the order, but for one being written (R92). -/
def SchedEngine.voidEntry (x : SchedEngine) (n k : Nat) (d : DirEntry) : Bool :=
  d.order == n && !d.void && (match x.access with | .push pos _ _ => pos != k | _ => true)

/-- Entries made void, from a position upward (R92). -/
def voidEntries (x : SchedEngine) (n : Nat) : Nat → List DirEntry → List DirEntry
  | _, [] => []
  | k, d :: l => (if x.voidEntry n k d then { d with void := true } else d) :: voidEntries x n (k + 1) l

/-- A cancel or a settlement notice on one engine, in one step with one PRINT outcome (R92, R93). The outcome's kind is the one loaded, which is the
kind of every run held there. Its depth still counts the void entries that are discarded at the end of the step (DESIGN CHOICE, log entry 20). A
waiting print (R120) of an active run that ends is given up, and the boundary's decision follows without a new boundary test (DESIGN CHOICE, log
entry 75). -/
def State.schedEnd (e : Fin 2) (n : Nat) (cause : RunCause) (s : State) : State :=
  let x := s.sched.get e
  let queued := (x.queue.filter fun r => r.order == n).length
  let stack := voidEntries x n 0 x.stack
  let voided := (stack.filter DirEntry.void).length - (x.stack.filter DirEntry.void).length
  let pushing := match x.access with | .push _ r _ => r.order == n | _ => false
  let active := x.active.filter fun r => r.order == n
  let underWay := match (s.ports.get e).record with | some r => r.print.order == n | none => false
  let ended := if underWay then none else active
  if queued == 0 && voided == 0 && !pushing && active.isNone then s
  else
    let s := s.modSched e fun x =>
      { x with
        queue := x.queue.filter fun r => r.order != n
        stack := stack
        access := match x.access with
          | .push pos r why => .push pos (if r.order == n then { r with ending := true } else r) why
          | a => a
        active := if ended.isSome then none
          else x.active.map fun r => if r.order == n then { r with ending := true } else r }
    let s := s.emitRun e .runEnded (s.loadedKind e) (some cause) (queued + if ended.isSome then 1 else 0)
      (voided + if pushing then 1 else 0) n
    let s := match ended with
      | some r => s.giveUpReprint n r.reprintItem
      | none => s
    let s := s.discardVoid e
    let s := if 0 < queued || 0 < voided || ended.isSome then s.runEndReport n else s
    if ended.isSome then (s.modPort e fun p => { p with waitingPrint := none }).push (.decide e) else s

/-! ## EVACUATE (R94) -/

/-- ENGINE_CONTROL EVACUATE (R94): the queued and saved runs are returned in one step, and their orders placed again elsewhere. The
retry that the end of every run brings (R77, R83) is made once for all of them, after their orders have been placed again (DESIGN CHOICE, log entry 83). -/
def State.evacuate (t : Ticket) (engine : Nat) (s : State) : State :=
  match engineOf engine with
  | none => s.endTicket t kindEngineControl .badField 1
  | some e =>
    let x := s.sched.get e
    if (s.ports.get e).state == .printing || x.access != .none then s.endTicket t kindEngineControl .busy 0
    else
      let saved := (x.stack.filter fun d => !d.void).reverse
      let count := x.queue.length + saved.length
      let orders := (x.queue.map Run.order ++ saved.map DirEntry.order).reverse.dedup.reverse
      let s := s.modSched e fun x => { x with queue := [], stack := [] }
      let s := s.emit (.printRun .runReturned (s.loadedKind e) none count 0 0) e.val 0 t.seq
      let s := s.giveUpReprints x.stack.reverse
      s.pushAll ((orders.map fun n => Act.quiet n 0) ++ (orders.map fun n => Act.place n false (some e)) ++ [.evacuated t count])

/-- The end of an EVACUATE: its ticket ends, and the awaiting list is retried (R94). -/
def State.evacuated (t : Ticket) (count : Nat) (s : State) : State :=
  (s.endTicket t kindEngineControl .ok count).push .retryAwaiting

end Sys2Proof.Machine
end

