-- ==== Sys2Proof/Machine/Tender.lean ====
section
/-! DEFINITION. The tender link controller (Tender Link) and its loopback (11.3): frames, the receiver, the link, requests and their answers,
timeouts, queries, late results, LINK_TEST. -/

namespace Sys2Proof.Machine

/-! ## Frames (R139, R204) -/

/-- The bytes the check covers: length, sequence, kind, payload (R139). -/
def frameCore (seq kind : Nat) (payload : List Byte) : List Byte :=
  [BitVec.ofNat 8 payload.length, BitVec.ofNat 8 seq, BitVec.ofNat 8 kind] ++ payload

/-- A frame on the line; `bad` inverts every bit of its CRC (R204, R202). -/
def frameBytes (seq kind : Nat) (payload : List Byte) (bad : Bool) : List Byte :=
  let core := frameCore seq kind payload
  let crc := tenderCheck core
  0xC3#8 :: core ++ beBytes 2 (if bad then 65535 - crc else crc)

/-- Terminal states by their codes (12.8). -/
def termStateOf : Nat → Option TermState
  | 1 => some .idle
  | 2 => some .presentCard
  | 3 => some .pinEntry
  | 4 => some .authorizing
  | 5 => some .removeCard
  | 6 => some .outOfService
  | _ => none

/-- The result that a result kind with its fields stands for (12.8); none for a code its kind does not define. -/
def resultOf (kind result reference amount : Nat) : Option TenderResult :=
  match kind, result with
  | 0x81, 0 => some (.holdApproved reference amount)
  | 0x81, 1 => some .holdDeclined
  | 0x82, 0 => some .captureDone
  | 0x82, 1 => some .captureRefused
  | 0x83, _ => some .released
  | _, _ => none

/-- What a frame of the terminal says (12.8). -/
inductive TermFrame where
  | state (code : TermState)
  | result (r : TenderResult)
  | unknown (about : Nat)
  | pending (about : Nat)
  | repeated (about : Nat) (r : TenderResult)
deriving DecidableEq, Repr

/-- A frame's content by its kind, sequence and payload; none for a content error (R140, R204). -/
def contentOf (kind seq : Nat) (p : List Byte) : Option TermFrame :=
  let be (off width : Nat) := ofBE ((p.drop off).take width)
  match kind with
  | 0x85 => if p.length == 1 then (termStateOf (be 0 1)).map .state else none
  | 0x81 => if p.length == 13 && seq != 0 then (resultOf 0x81 (be 0 1) (be 1 8) (be 9 4)).map .result else none
  | 0x82 => if p.length == 1 && seq != 0 then (resultOf 0x82 (be 0 1) 0 0).map .result else none
  | 0x83 => if p.length == 0 && seq != 0 then some (.result .released) else none
  | 0x84 =>
    if p.length == 16 && seq != 0 then
      match be 1 1 with
      | 0 => some (.unknown (be 0 1))
      | 1 => some (.pending (be 0 1))
      | 2 => (resultOf (be 2 1) (be 3 1) (be 4 8) (be 12 4)).map (.repeated (be 0 1))
      | _ => none
    else none
  | _ => none

/-- The check of an assembled frame matches (R140). -/
def frameSound (f : List Byte) : Bool :=
  let body := f.drop 1
  tenderCheck (body.take (body.length - 2)) == ofBE (body.drop (body.length - 2))

/-! ## The receiver (R140, R141, R201) -/

/-- A discarded frame: back to HUNT, with a frame error (R140). -/
def State.discardFrame (s : State) : State := (s.modTender fun t => { t with rx := [] }).count .frameErrors 1

/-- A whole frame has been assembled: it joins the receive queue, or is discarded or lost (R140, R141). -/
def State.frameAssembled (f : List Byte) (s : State) : State :=
  let seq := (f.getD 2 0).toNat
  let kind := (f.getD 3 0).toNat
  let payload := (f.drop 4).take (f.length - 6)
  if frameSound f && (contentOf kind seq payload).isSome then
    let s := s.modTender fun t => { t with rx := [], lastValid := some s.clock }
    if s.tender.queue.length < Config.receivePlaces then
      s.modTender fun t => { t with queue := t.queue ++ [{ seq := seq, kind := kind, payload := payload, arrival := s.clock }] }
    else s.count .framesLost 1
  else s.discardFrame

/-- One byte at the receiver (R140). -/
def State.receiveByte (b : Byte) (s : State) : State :=
  let rx := s.tender.rx ++ [b]
  match s.tender.rx with
  | [] => if b == 0xC3#8 then s.modTender fun t => { t with rx := [b], rxLast := s.clock } else s
  | [_] => if 40 < b.toNat then s.discardFrame else s.modTender fun t => { t with rx := rx, rxLast := s.clock }
  | _ :: len :: _ =>
    if rx.length == len.toNat + 6 then s.frameAssembled rx else s.modTender fun t => { t with rx := rx, rxLast := s.clock }

/-- A gap of more than 20 ms within a frame discards it (R140). -/
def State.receiveGap (s : State) : State :=
  if !s.tender.rx.isEmpty && reached s.clock (s.tender.rxLast + Config.receiveGap + 1) then s.discardFrame else s

/-- Bytes of the line: discarded while listening is off, or while the loop is ON (R138, R201). -/
def State.lineBytes (bytes : List Byte) (s : State) : State :=
  if s.tender.listening && !s.tender.loopOn then bytes.foldl (fun s b => s.receiveByte b) s.receiveGap else s

/-- A looped frame of the part is classed ECHO, or discarded when its check fails (R201). -/
def State.loopedFrame (f : List Byte) (s : State) : State :=
  if frameSound f then s.modTender fun t => { t with echo := min 65535 (t.echo + 1) } else s.discardFrame

/-! ## Outcomes -/

/-- A TENDER outcome with the loop's state (12.6). -/
def State.emitTender (event : TenderEvent) (prev new : Option TermState) (seq : Nat) (s : State) : State :=
  s.emit (.tender event prev new s.tender.linkUp s.tender.loopOn s.tender.quiet s.tender.echo) 0 0 seq

/-- A PAYMENT outcome about a request, with its amount and hold reference. -/
def State.emitRequest (event : PayEvent) (e : TenderEntry) (seq : Nat) (mark : Option PayMark) (s : State) : State :=
  s.emit (.payment event (some e.kind) seq none mark e.reference e.amount) 0 e.order 0

/-- The request kind a result belongs to. -/
def TenderResult.kind : TenderResult → RequestKind
  | .holdApproved _ _ | .holdDeclined => .hold
  | .captureDone | .captureRefused => .capture
  | .released => .release

/-- The result field of a PAYMENT outcome (12.6). `whole`: an approval is for the full amount. -/
def TenderResult.field (r : TenderResult) (whole : Bool) : PayResult :=
  match r with
  | .holdApproved _ _ => if whole then .approved else .partialHold
  | .holdDeclined => .declined
  | .captureDone => .done
  | .captureRefused => .refused
  | .released => .released

/-- The hold reference and amount a result carries (12.8). Those bytes of a DECLINED result are dropped, and its outcomes report 0 for both (DESIGN CHOICE,
log entry 94). -/
def TenderResult.figures : TenderResult → Nat × Nat
  | .holdApproved r a => (r, a)
  | .holdDeclined | .captureDone | .captureRefused | .released => (0, 0)

/-- A PAYMENT outcome about a result, with the result's own fields. -/
def State.emitResult (event : PayEvent) (order seq : Nat) (kind : RequestKind) (r : TenderResult) (whole : Bool) (mark : Option PayMark)
    (s : State) : State :=
  s.emit (.payment event (some kind) seq (some (r.field whole)) mark r.figures.1 r.figures.2) 0 order 0

/-! ## Terminal state and the link (R142, R143) -/

/-- The TENDER cause (R143). OUT_OF_SERVICE counts as newly accepted at every LINK_UP that reports it, whatever the accepted state was before (DESIGN
CHOICE, log entry 90). -/
def State.attendTender (event : TenderEvent) (prev new : Option TermState) (s : State) : State :=
  let oos := new == some .outOfService
  let always := event == .linkDown || (oos && (event == .state || event == .linkUp))
  let both := (event == .linkUp && !oos) || (event == .state && prev == some .outOfService)
  s.attendIf (always || (s.settings.tenderBoth && both)) .tender

/-- A STATE frame: a second agreeing one confirms the code (R142). While the loop is ON it changes nothing (R201). -/
def State.stateFrame (code : TermState) (s : State) : State :=
  let t := s.tender
  if t.loopOn then s
  else if t.candidate != some code then s.modTender fun t => { t with candidate := some code }
  else if !t.linkUp then
    ((s.modTender fun t => { t with linkUp := true, accepted := some code }).emitTender .linkUp t.accepted (some code) 0).attendTender
      .linkUp t.accepted (some code)
  else if t.accepted != some code then
    ((s.modTender fun t => { t with accepted := some code }).emitTender .state t.accepted (some code) 0).attendTender
      .state t.accepted (some code)
  else s

/-- The moment the link's silence is reached; none while the test does not run (R143). -/
def Tender.silenceAt (t : Tender) : Option Nat :=
  if t.listening && !t.loopOn && t.linkUp then t.lastValid.map (· + Config.linkSilence) else none

/-- 3,000 ms with no valid frame: the link goes DOWN (R143). -/
def State.linkSilent (s : State) : State :=
  match s.tender.silenceAt with
  | some at_ =>
    if reached s.clock at_ then
      let a := s.tender.accepted
      ((s.modTender fun t => { t with linkUp := false, candidate := none }).emitTender .linkDown a a 0).attendTender .linkDown a a
    else s
  | none => s

/-! ## Answers (R147, R149 to R152) -/

/-- A sequence put at the head of the answered list, which keeps four (R147). -/
def Tender.answeredBy (seq : Nat) (t : Tender) : Tender := { t with answered := (seq :: t.answered).take 4 }

/-- An approval whose amount is 0 or more than was requested is not applied (R147). -/
def TenderResult.badAmount (r : TenderResult) (e : TenderEntry) : Bool :=
  match r with
  | .holdApproved _ a => a == 0 || decide (e.amount < a)
  | .holdDeclined | .captureDone | .captureRefused | .released => false

/-- The result handed to the order table (R147, R12, R23). -/
def State.handResult (e : TenderEntry) (seq : Nat) (r : TenderResult) (s : State) : State :=
  match r with
  | .holdApproved ref a => s.holdAnswer e.order seq e.ticket (some (ref, a)) (a == e.amount)
  | .holdDeclined => s.holdAnswer e.order seq e.ticket none false
  | .captureDone => s.captureAnswer e.order seq true
  | .captureRefused => s.captureAnswer e.order seq false
  | .released => s.releaseAnswer e.order seq

/-- A suitable result of the outstanding request (R147, R152). -/
def State.applyResult (o : Outstanding) (r : TenderResult) (s : State) : State :=
  if r.badAmount o.entry then s.emitResult .badResult o.entry.order o.seq o.entry.kind r true none
  else
    let s := s.modTender fun t => Tender.answeredBy o.seq { t with outstanding := none }
    if o.entry.kind == .orphan then
      s.emit (.payment .orphanReleased (some .orphan) o.seq (some .released) none o.entry.reference 0) 0 0 0
    else
      (s.emitResult .answered o.entry.order o.seq o.entry.kind r (r.figures.2 == o.entry.amount) none).handResult o.entry o.seq r

/-- The outstanding request becomes unresolved (R150). The sequence of an order entry is reserved whether or not its order still holds the request;
where none does, nothing but a reset clears it (DESIGN CHOICE, log entry 17). -/
def State.requestUnresolved (o : Outstanding) (s : State) : State :=
  let s := s.modTender fun t => { t with outstanding := none }
  if o.entry.kind == .orphan then s.emitRequest .unresolved o.entry o.seq (some .orphanUnresolved)
  else
    let s := s.emitRequest .unresolved o.entry o.seq none
    let s := s.modTender fun t => { t with reservedSeqs := t.reservedSeqs ++ [o.seq] }
    s.orderUnresolved o.entry.order o.seq o.entry.ticket true

/-- The orphan places in use: entries queued or outstanding (R144, R152). -/
def Tender.orphans (t : Tender) : Nat :=
  (t.requests.filter fun e => e.kind == .orphan).length
    + (match t.outstanding with | some o => if o.entry.kind == .orphan then 1 else 0 | none => 0)

/-- A late result; an approval brings an orphan release of its hold (R151 case 3, R152). -/
def State.lateResult (seq : Nat) (r : TenderResult) (s : State) : State :=
  match r with
  | .holdApproved ref _ =>
    if s.tender.orphans < Config.orphanPlaces then
      (s.emitResult .late 0 seq r.kind r true none).enqueueTender
        { kind := .orphan, order := 0, amount := 0, reference := ref }
    else s.emitResult .late 0 seq r.kind r true (some .orphanNotReleased)
  | _ => s.emitResult .late 0 seq r.kind r true none

/-- A result that answers neither the outstanding request nor its query, by the sequence it answers, which its outcome carries (R151). For a repeated
result that is the sequence asked about, not the frame's own (DESIGN CHOICE, log entry 64). The outcome's request kind is the kind the result belongs
to, RELEASE for a RELEASE_RESULT that an orphan release has had before (DESIGN CHOICE, log entry 93). -/
def State.unawaited (seq : Nat) (r : TenderResult) (s : State) : State :=
  if s.tender.answered.contains seq then s.emitResult .duplicate 0 seq r.kind r true none
  else if s.tender.reservedSeqs.contains seq then
    let whole := match s.unresolvedBy seq r with
      | some (_, u) => r.figures.2 == u.amount
      | none => true
    match s.offerLate seq r with
    | (.taken n, s) =>
      ((s.unreserve seq).modTender (Tender.answeredBy seq)).emitResult .answered n seq r.kind r whole none
    | (.noChange, s) => s.emitResult .late 0 seq r.kind r true none
    | (.notAwaited, s) => s.lateResult seq r
  else s.lateResult seq r

/-- A QUERY_RESULT UNKNOWN or PENDING that answers no outstanding query: a duplicate, or late, with no change (R151). The outcome carries the sequence
asked about (DESIGN CHOICE, log entry 64). -/
def State.unawaitedQuery (seq : Nat) (k : PayResult) (s : State) : State :=
  s.emit (.payment (if s.tender.answered.contains seq then .duplicate else .late) none seq (some k) none 0 0) 0 0 0

/-- A result frame (R147, R151). -/
def State.resultFrame (seq : Nat) (r : TenderResult) (s : State) : State :=
  match s.tender.outstanding with
  | some o => if r.suitsKind o.entry.kind && o.seq == seq then s.applyResult o r else s.unawaited seq r
  | none => s.unawaited seq r

/-- The outstanding query that a QUERY_RESULT answers (R149). -/
def Tender.queryAnswered (t : Tender) (seq about : Nat) : Option Outstanding :=
  match t.outstanding with
  | some o => if o.phase == .awaitQuery seq && o.seq == about then some o else none
  | none => none

/-- The response timeout of a request, in ms, from the live settings (R146). -/
def State.responseTimeout (s : State) (k : RequestKind) : Nat :=
  match k with
  | .hold => 1000 * s.settings.holdTimeout
  | .capture | .release | .orphan => 1000 * s.settings.shortTimeout

/-- A PENDING answer: waited for once more, then taken as UNKNOWN (R149). -/
def State.pendingAnswer (o : Outstanding) (s : State) : State :=
  if o.pendingUsed then s.requestUnresolved o
  else
    s.modTender fun t =>
      { t with outstanding := some { o with pendingUsed := true, phase := .awaitResult,
                                            expiry := some (clockAt (s.clock + s.responseTimeout o.entry.kind)) } }

/-- A repeated result (R149). The BAD_RESULT of one that is not applied carries the sequence and the kind of the request asked about (DESIGN CHOICE, log
entry 64). -/
def State.repeatAnswer (o : Outstanding) (r : TenderResult) (s : State) : State :=
  if r.suitsKind o.entry.kind then s.applyResult o r
  else s.emitResult .badResult o.entry.order o.seq o.entry.kind r true none

/-- What a frame of the receive queue says. -/
def RxFrame.content (f : RxFrame) : Option TermFrame := contentOf f.kind f.seq f.payload

/-- The head of the receive queue is processed (R141). -/
def State.processHead (s : State) : State :=
  match s.tender.queue with
  | [] => s
  | f :: rest =>
    let s := s.modTender fun t => { t with queue := rest }
    match f.content with
    | some (.state code) => s.stateFrame code
    | some (.result r) => s.resultFrame f.seq r
    | some (.unknown about) =>
      match s.tender.queryAnswered f.seq about with
      | some o => s.requestUnresolved o
      | none => s.unawaitedQuery about .unknown
    | some (.pending about) =>
      match s.tender.queryAnswered f.seq about with
      | some o => s.pendingAnswer o
      | none => s.unawaitedQuery about .pending
    | some (.repeated about r) =>
      match s.tender.queryAnswered f.seq about with
      | some o => s.repeatAnswer o r
      | none => s.unawaited about r
    | none => s

/-! ## Sending (R145, R146, R148) -/

/-- No frame of a request or query may be sent while listening is off, the link DOWN or the loop ON (R145). -/
def Tender.maySend (t : Tender) : Bool := t.listening && t.linkUp && !t.loopOn

/-- The oldest queued entry that may be sent (R145). -/
def Tender.chosen (t : Tender) : Option TenderEntry :=
  if t.maySend && t.outstanding.isNone then
    t.requests.find? fun e => !(e.kind == .hold && t.accepted == some .outOfService)
  else none

/-- The next sequence not reserved, from 1 to 255 (R146): a reserved value is passed over when a frame takes its sequence, not when the next sequence
moves on to it (DESIGN CHOICE, log entry 62). -/
def Tender.freshSeq (t : Tender) : Nat :=
  (((List.range 255).map fun i => (t.nextSeq + i - 1) % 255 + 1).find? fun q => !t.reservedSeqs.contains q).getD t.nextSeq

/-- A frame starts: it takes its sequence, and an armed insertion inverts its CRC (R146, R202). -/
def State.startFrame (what : TxFor) (seq kind : Nat) (payload : List Byte) (s : State) : State :=
  s.modTender fun t =>
    { t with
      nextSeq := seq % 255 + 1
      armed := t.armed - 1
      tx := some { what := what, bytes := frameBytes seq kind payload (decide (0 < t.armed)), started := s.clock } }

/-- The kind and payload of a request's frame (R146, 12.8). -/
def TenderEntry.frame (e : TenderEntry) : Nat × List Byte :=
  match e.kind with
  | .hold => (0x01, beBytes 2 e.order ++ beBytes 4 e.amount)
  | .capture => (0x02, beBytes 8 e.reference ++ beBytes 4 e.amount)
  | .release | .orphan => (0x03, beBytes 8 e.reference)

/-- A request's frame starts: it becomes outstanding, and PAYMENT SENT is queued (R146). A HOLD still queued when its order was closed is sent as it
stands, and its sequence goes into the request of a live order that carries the number then (DESIGN CHOICE, log entry 66). -/
def State.startRequest (e : TenderEntry) (s : State) : State :=
  let seq := s.tender.freshSeq
  let s := s.modTender fun t => { t with requests := t.requests.erase e, outstanding := some { entry := e, seq := seq } }
  let s := s.startFrame (.request seq) seq e.frame.1 e.frame.2
  let s := if e.kind == .orphan then s
    else s.modOrder e.order fun o => { o with request := o.request.map fun r => { r with seq := some seq } }
  s.emitRequest .sent e seq none

/-- The QUERY of an outstanding request starts (R148). -/
def State.startQuery (o : Outstanding) (s : State) : State :=
  let q := s.tender.freshSeq
  s.startFrame (.query o.seq q) q 0x04 (beBytes 1 o.seq)

/-- The next test frame of a SEND starts: a QUERY about sequence 0 (R201). -/
def State.startTest (d : TestSend) (s : State) : State :=
  let q := s.tender.freshSeq
  (s.startFrame .test q 0x04 (beBytes 1 0)).modTender fun t => { t with testSend := some { d with started := d.started + 1 } }

/-- The moment the gap after the last frame has passed (R145). -/
def Tender.gapEnd (t : Tender) : Option Nat := t.lastTxEnd.map (· + Config.transmitGap)

/-- The 30 ms gap has passed (R145). -/
def State.gapPassed (s : State) : Bool :=
  match s.tender.gapEnd with
  | some t => reached s.clock t
  | none => true

/-- The QUERY that is due and may be sent (R148). -/
def Tender.queryDue (t : Tender) : Option Outstanding :=
  match t.outstanding with
  | some o => if o.phase == .queryDue && t.maySend then some o else none
  | none => none

/-- The SEND with a test frame still to start (R201). -/
def Tender.testDue (t : Tender) : Option TestSend :=
  match t.testSend with
  | some d => if t.listening && t.loopOn && decide (d.started < d.total) then some d else none
  | none => none

/-- Something is to be sent. -/
def Tender.wantsFrame (t : Tender) : Bool := t.tx.isNone && (t.queryDue.isSome || t.testDue.isSome || t.chosen.isSome)

/-- The gap has passed and the chosen frame is started (R145, R146). -/
def State.gapElapsed (s : State) : State :=
  if s.tender.tx.isSome || !s.gapPassed then s
  else
    match s.tender.queryDue, s.tender.testDue, s.tender.chosen with
    | some o, _, _ => s.startQuery o
    | none, some d, _ => s.startTest d
    | none, none, some e => s.startRequest e
    | none, none, none => s

/-- How long a frame takes on the line, in ms: ten bit times a byte at 19,200 baud (R139). -/
def Transmission.duration (t : Transmission) : Nat := t.bytes.length * 10000 / 19200

/-- What the part drives onto the line: the frame in transmission, and the idle mark level (none) between frames and, with the loop ON and QUIET,
throughout (R201). -/
def Tender.lineOutput (t : Tender) : Option (List Byte) := if t.loopOn && t.quiet then none else t.tx.map Transmission.bytes

/-- The LINK_TEST tickets that waited behind a SEND are taken up (R201). The order that one names is tested then once more, so one whose order has been
closed meanwhile ends NO_ORDER (R1; DESIGN CHOICE, log entry 54). -/
def State.takeDeferred (s : State) : State :=
  let l := s.tender.deferred
  (s.modTender fun t => { t with deferred := [] }).pushAll (l.map Act.cmd)

/-- A test frame has been sent: it is heard by the receiver, and the last one ends the SEND (R201). -/
def State.testSent (bytes : List Byte) (s : State) : State :=
  let s := if s.tender.loopOn then s.loopedFrame bytes else s
  match s.tender.testSend with
  | some d =>
    if d.total ≤ d.started then
      ((s.modTender fun t => { t with testSend := none }).endTicket d.ticket kindLinkTest .ok d.total).takeDeferred
    else s
  | none => s

/-- The end of a transmission (R146, R148): the moments are counted from the end of its last stop bit, whenever the event is applied, with the timeout
settings as they stand at the application (DESIGN CHOICE, log entry 63). QUERIED carries the sequence of the request (DESIGN CHOICE, log entry 64). A
QUERY in transmission when its request is answered or becomes unresolved is sent to its end, with no QUERIED (DESIGN CHOICE, log entry 91). -/
def State.transmitEnded (s : State) : State :=
  match s.tender.tx with
  | none => s
  | some x =>
    if !reached s.clock (x.started + x.duration) then s
    else
      let ended := clockAt (x.started + x.duration)
      let s := s.modTender fun t => { t with tx := none, lastTxEnd := some ended }
      match x.what, s.tender.outstanding with
      | .request seq, some o =>
        if o.seq == seq && o.expiry.isNone then
          s.modTender fun t =>
            { t with outstanding := some { o with expiry := some (clockAt (ended + s.responseTimeout o.entry.kind)) } }
        else s
      | .query about q, some o =>
        if o.seq == about && o.phase == .queryDue then
          (s.modTender fun t => { t with outstanding := some { o with phase := .awaitQuery q } }).emitRequest .queried o.entry o.seq none
        else s
      | .test, _ => s.testSent x.bytes
      | _, none => s

/-- The outstanding request's expiry in phase AWAIT_RESULT: a QUERY becomes due, and the short timeout runs from the expiry (R148), as the settings stand
at the application (DESIGN CHOICE, log entry 63). -/
def State.responseExpired (s : State) : State :=
  match s.tender.outstanding with
  | some o =>
    match o.phase, o.expiry with
    | .awaitResult, some t =>
      if reached s.clock t then
        s.modTender fun x =>
          { x with outstanding := some { o with phase := .queryDue, expiry := some (clockAt (t + 1000 * s.settings.shortTimeout)) } }
      else s
    | _, _ => s
  | none => s

/-- The query's expiry: the request becomes unresolved (R148, R149). -/
def State.queryExpired (s : State) : State :=
  match s.tender.outstanding with
  | some o =>
    match o.phase, o.expiry with
    | .awaitResult, _ => s
    | _, some t => if reached s.clock t then s.requestUnresolved o else s
    | _, none => s
  | none => s

/-- The withdrawal of a queued HOLD (R154). A HOLD already sent is left to be answered. -/
def State.withdrawHold (n : Nat) (s : State) : State :=
  match s.tender.requests.find? fun e => e.kind == .hold && e.order == n with
  | none => s
  | some e =>
    let s := s.modTender fun t => { t with requests := t.requests.erase e }
    let s := s.emitRequest .withdrawn e 0 none
    let s := s.modOrder n fun o => { o with request := none }
    (s.endPay e.ticket .cancelled 0).push (.quiet n 0)

/-! ## LINK_TEST (R200 to R202) -/

/-- A request is outstanding, or an entry stands in the request queue (R200, R202). -/
def Tender.engaged (t : Tender) : Bool := t.outstanding.isSome || !t.requests.isEmpty

/-- LOOP_ON (R200). A mode out of range ends it BAD_FIELD before the test for BUSY is made (DESIGN CHOICE, log entry 82). -/
def State.loopClose (t : Ticket) (mode : Nat) (s : State) : State :=
  if 1 < mode then s.endTicket t kindLinkTest .badField 1
  else if s.tender.engaged then s.endTicket t kindLinkTest .busy 0
  else if s.tender.loopOn then (s.modTender fun x => { x with quiet := mode == 1 }).endTicket t kindLinkTest .ok alreadyFlag
  else
    let s := s.modTender fun x =>
      { x with loopOn := true, quiet := mode == 1, echo := 0, candidate := none, rx := [], heldLink := x.linkUp,
               heldAccepted := x.accepted }
    (s.emitTender .loop s.tender.accepted s.tender.accepted t.seq).endTicket t kindLinkTest .ok 0

/-- LOOP_OFF (R200); during a SEND it waits (R201). -/
def State.loopOpen (t : Ticket) (s : State) : State :=
  if s.tender.testSend.isSome then s.modTender fun x => { x with deferred := x.deferred ++ [.linkTestLoopOff t] }
  else if s.tender.loopOn then
    let s := s.modTender fun x =>
      { x with loopOn := false, linkUp := x.heldLink, accepted := x.heldAccepted, lastValid := some s.clock, candidate := none }
    (s.emitTender .loop s.tender.accepted s.tender.accepted t.seq).endTicket t kindLinkTest .ok s.tender.echo
  else s.endTicket t kindLinkTest .ok alreadyFlag

/-- SEND (R201); a second SEND waits for the first, whatever its count. -/
def State.testSend (t : Ticket) (count : Nat) (s : State) : State :=
  if s.tender.testSend.isSome then s.modTender fun x => { x with deferred := x.deferred ++ [.linkTestSend t count] }
  else if count == 0 then s.endTicket t kindLinkTest .badField 1
  else if s.tender.loopOn then s.modTender fun x => { x with testSend := some { ticket := t, total := count, started := 0 } }
  else s.endTicket t kindLinkTest .wrongState 0

/-- INSERT_ERROR (R202). -/
def State.insertError (t : Ticket) (s : State) : State :=
  if s.tender.engaged then s.endTicket t kindLinkTest .busy 0
  else
    let n := min 255 (s.tender.armed + 1)
    (s.modTender fun x => { x with armed := n }).endTicket t kindLinkTest .ok n

end Sys2Proof.Machine
end

