-- ==== Sys2Proof/Machine/Agenda.lean ====
section
/-! DEFINITION. How a command's effect is made: the requests one block makes of another, applied one at a time in order of arrival (R5, R72,
R115, R138), and the room each needs in the pending outcome queue (R178). -/

namespace Sys2Proof.Machine

/-! ## What a request does -/

/-- The step of a table row that may have to wait for room. The rows whose commands bring no outcome act at once and have no step here. -/
def applyCmd (c : Instr) (s : State) : State :=
  match c with
  | .settingsApplied => s.settingsApplied
  | .orderAddItems t items => s.addItems t items
  | .orderQuote t => s.quoteOrder t
  | .orderCancel t => s.cancelTicket t
  | .orderDropItem t item => s.dropItem t item
  | .orderResolve t answer reference amount => s.resolveOrder t answer reference amount
  | .abandonExpiry n => s.abandonExpiry n
  | .cardSettleEnd n => s.settleEnd n
  | .identifyAnswer n capacity check => s.identifyAnswered n capacity check
  | .identifyTimeout n => s.identifyTimedOut n
  | .blockAnswer n data check => s.blockAnswered n data check
  | .blockTimeout n => s.blockTimedOut n
  | .engineControlEvacuate t engine => s.forLiveOrder t kindEngineControl (State.evacuate t engine)
  | .engineControlPause t engine => s.forLiveOrder t kindEngineControl (State.pauseEngine t engine)
  | .engineControlResume t engine => s.forLiveOrder t kindEngineControl (State.resumeEngine t engine)
  | .engineControlReset t engine => s.forLiveOrder t kindEngineControl (State.resetEngine t engine)
  | .mediaSet t engine kind sheets ribbons => s.forLiveOrder t kindMediaSet (State.setMedia t engine kind sheets ribbons)
  | .engineProof t engine profile finish temp lines source dest =>
      s.forLiveOrder t kindEngineProof (State.startProof t engine profile finish temp lines source dest)
  | .mechReady e temp => s.mechReady e temp
  | .mechFault e code => s.mechFault e code
  | .mechLineRequest e temp => s.mechLineRequest e temp
  | .mechEjectDone e temp => s.mechEjectDone e temp
  | .engineSilence e => s.engineSilence e
  | .printSilence e => s.printSilence e
  | .printEndStep e => s.printEnd e
  | .receiveQueueProcess => s.processHead
  | .linkSilence => s.linkSilent
  | .transmitGapElapsed => s.gapElapsed
  | .transmitEnd => s.transmitEnded
  | .responseExpiry => s.responseExpired
  | .queryExpiry => s.queryExpired
  | .payCard t => s.payCard t
  | .linkTestLoopOn t mode => s.forLiveOrder t kindLinkTest (State.loopClose t mode)
  | .linkTestLoopOff t => s.forLiveOrder t kindLinkTest (State.loopOpen t)
  | .linkTestSend t count => s.forLiveOrder t kindLinkTest (State.testSend t count)
  | .linkTestInsertError t => s.forLiveOrder t kindLinkTest (State.insertError t)
  | .cashFaultApplied => s.cashFaultApplied
  | .payCashBind t => s.checkBind t
  | .cashBindApplied => s.cashBindApplied
  | .payCashUnbind t => s.payCashUnbind t
  | .cashCreditApplied => s.cashCreditApplied
  | .cashStrayApplied => s.cashStrayApplied
  | .windowEndApplied => s.windowEndApplied
  | .counterReport => s.counterReport
  | _ => s

/-- What a request does. -/
def applyAct (a : Act) (s : State) : State :=
  match a with
  | .cmd c => applyCmd c s
  | .openOrder t station cls profile finish takenAt => s.openOrder t station cls profile finish takenAt
  | .zeroQuoteFunded n t => s.zeroQuoteFunded n t
  | .accounted n seq => s.accountedTest n seq
  | .quiet n seq => s.quietTest n seq
  | .fundsTest n seq => s.fundingTest n seq
  | .returnTest n cause seq => s.returnTest n cause seq
  | .closeOrder n seq => s.closeNow n seq
  | .staging n item r => s.stagingReport n item r
  | .printReport n item answer => s.printReport n item answer
  | .reprintGivenUp n item => s.reprintGivenUp n item
  | .withdrawHold n => s.withdrawHold n
  | .handTender e => s.enqueueTender e
  | .insertionApplied n => s.insertionApplied n
  | .removalApplied n => s.removalApplied n
  | .identified n capacity => s.identified n capacity
  | .slotFaulted n why => s.slotFaulted n why
  | .readBegin n => s.readBegin n
  | .queueEmpty n order => s.queueEmpty n order
  | .readOrder t n item extents => s.readOrder t n item extents
  | .place n retry excluded => s.placeOrder n retry excluded
  | .placeKind n kind retry excluded => s.placeKind n kind retry excluded
  | .placeDone n => s.placeDone n
  | .retryAwaiting => s.retryAwaiting
  | .decide e => s.decision e
  | .choose e => s.choose e
  | .hand e => s.handPrint e
  | .grant e p => s.grantPrint e p
  | .grantAnswer e p a => s.grantAnswered e p a
  | .endActive e cause => s.endActive e cause
  | .pushWritten e ok => s.pushWritten e ok
  | .popRead e ok bytes => s.popRead e ok bytes
  | .parkTest e => s.parkTest e
  | .arrival e => s.arrival e
  | .answerHeld e => s.answerHeld e
  | .schedEnd e n cause => s.schedEnd e n cause
  | .notice e n w => s.noticeAt e n w
  | .evacuated t count => s.evacuated t count
  | .boundary e cause seq => s.boundaryAsked e cause seq
  | .printStart e p => s.printStart e p
  | .portIdle e => s.portRests e .idle
  | .portBlocked e => s.portRests e .blocked
  | .printEnd e => s.printEnd e
  | .profileFreeAt e profile => s.profileFreeAt e profile
  | .spoilWritten e => s.spoilWritten e
  | .toneHead => s.toneHead
  | .proofReserve e => s.proofReserve e
  | .proofStep e => s.proofStep e
  | .proofEnd e => s.proofEnd e
  | .refuse t kind detail _ => s.forLiveOrder t kind (State.endTicket t kind .badField detail)
  | .ticketPlace => s.ticketPlace
  | .burstError => s.finishBurst .failed

/-! ## Whose order of arrival a request keeps -/

/-- The engine port of an engine number. -/
def portOwner (engine : Nat) : List Owner :=
  match engineOf engine with
  | some e => [.port e]
  | none => []

/-- The order of a request of the tender link; an orphan release has none (R144). -/
def Outstanding.order (o : Outstanding) : List Owner := if o.entry.kind == .orphan then [] else [.order o.entry.order]

/-- The order that a result of the outstanding request reaches: none for an amount that cannot be right (R147). -/
def Outstanding.reaches (o : Outstanding) (r : TenderResult) : List Owner := if r.badAmount o.entry then [] else o.order

/-- The order that an unawaited result reaches: the one whose unresolved request it answers (R151). -/
def State.lateReaches (s : State) (seq : Nat) (r : TenderResult) : List Owner :=
  if s.tender.answered.contains seq || !s.tender.reservedSeqs.contains seq then []
  else match s.unresolvedBy seq r with
    | some (o, _) => [.order o.number]
    | none => []

/-- The order that a result frame reaches (R147, R151). -/
def State.resultReaches (s : State) (seq : Nat) (r : TenderResult) : List Owner :=
  match s.tender.outstanding with
  | some o => if r.suitsKind o.entry.kind && o.seq == seq then o.reaches r else s.lateReaches seq r
  | none => s.lateReaches seq r

/-- The order that the head of the receive queue reaches; a STATE frame, and a PENDING that is waited for once more, reach none (R141, R149). -/
def State.headOrder (s : State) : List Owner :=
  match s.tender.queue.head? with
  | none => []
  | some f =>
    match f.content with
    | some (.result r) => s.resultReaches f.seq r
    | some (.unknown about) => match s.tender.queryAnswered f.seq about with
      | some o => o.order
      | none => []
    | some (.pending about) => match s.tender.queryAnswered f.seq about with
      | some o => if o.pendingUsed then o.order else []
      | none => []
    | some (.repeated about r) => match s.tender.queryAnswered f.seq about with
      | some o => if r.suitsKind o.entry.kind then o.reaches r else []
      | none => s.lateReaches about r
    | some (.state _) | none => []

/-- The order that the head of the cash acceptor's waiting list reaches. -/
def State.cashOrder (s : State) : List Owner :=
  match s.cash.list.head? with
  | some (.credit (some n) _) => [.order n]
  | some .windowEnd => [.order s.cash.bound]
  | _ => []

/-- The blocks and records whose order of arrival a command's step keeps (R5, R72, R115, R138, R157). A ticket of another block that names an order keeps
its block's order alone: its order is tested at once, also while a request of that order waits (R1, R5; DESIGN CHOICE, log entry 65). A
PAY_CARD is one of the tender link controller's events, in order of arrival with those that R138 names (DESIGN CHOICE, log entry 77). -/
def cmdOwners (c : Instr) (s : State) : List Owner :=
  match c with
  | .settingsApplied => [.settings]
  | .orderAddItems t _ | .orderQuote t | .orderCancel t | .orderDropItem t _ | .orderResolve t _ _ _ => [.order t.order]
  | .abandonExpiry n => [.order n]
  | .cardSettleEnd n | .identifyAnswer n _ _ | .identifyTimeout n | .blockAnswer n _ _ | .blockTimeout n => [.slot n]
  | .engineControlEvacuate _ engine =>
      match engineOf engine with
      | some e => [.sched e]
      | none => []
  | .engineControlPause _ engine | .engineControlResume _ engine | .engineControlReset _ engine => portOwner engine
  | .mediaSet _ engine _ _ _ | .engineProof _ engine _ _ _ _ _ _ => portOwner engine
  | .mechReady e _ | .mechFault e _ | .mechLineRequest e _ | .mechEjectDone e _ => [.port e]
  | .engineSilence e | .printSilence e => [.port e]
  | .receiveQueueProcess => .tender :: s.headOrder
  | .queryExpiry => .tender :: (match s.tender.outstanding with | some o => o.order | none => [])
  | .linkSilence | .transmitGapElapsed | .transmitEnd | .responseExpiry => [.tender]
  | .linkTestLoopOn _ _ | .linkTestLoopOff _ | .linkTestSend _ _ | .linkTestInsertError _ => [.tender]
  | .payCard t => [.tender, .order t.order]
  | .payCashBind t => [.cash, .order t.order]
  | .payCashUnbind t => [.order t.order]
  | .cashFaultApplied | .cashBindApplied | .cashCreditApplied | .cashStrayApplied | .windowEndApplied => .cash :: s.cashOrder
  | .counterReport => [.counters]
  | _ => []

/-- The blocks and records whose order of arrival a request keeps. A CARD_READ that waits keeps that of its order record, not of its slot (DESIGN CHOICE,
log entry 56). -/
def ownersOf (a : Act) (s : State) : List Owner :=
  match a with
  | .cmd c => cmdOwners c s
  | .openOrder t _ _ _ _ _ => [.order t.order]
  | .zeroQuoteFunded n _ | .accounted n _ | .quiet n _ | .fundsTest n _ | .returnTest n _ _ | .closeOrder n _ => [.order n]
  | .staging n _ _ | .printReport n _ _ | .reprintGivenUp n _ => [.order n]
  | .withdrawHold n => [.tender, .order n]
  | .handTender _ => [.tender]
  | .insertionApplied n | .removalApplied n | .identified n _ | .slotFaulted n _ | .readBegin n | .queueEmpty n _ => [.slot n]
  | .readOrder t _ _ _ => if t.order == 0 then [] else [.order t.order]
  | .placeKind _ kind _ excluded =>
      .awaiting :: (match s.chosenEngine kind excluded with | some e => [.sched e] | none => [])
  | .placeDone _ | .retryAwaiting | .evacuated _ _ => [.awaiting]
  | .place _ _ _ => []
  | .notice e _ _ | .decide e | .choose e | .endActive e _ | .parkTest e | .arrival e | .answerHeld e => [.sched e]
  | .pushWritten e _ | .popRead e _ _ | .schedEnd e _ _ => [.sched e]
  | .grant e p => [.order p.order, .port e, .sched e]
  | .hand e | .grantAnswer e _ _ | .printStart e _ | .portIdle e | .portBlocked e => [.port e, .sched e]
  | .boundary e _ _ | .spoilWritten e | .proofEnd e | .profileFreeAt e _ => [.port e]
  | .refuse _ _ _ at_ => at_
  | .printEnd _ | .toneHead | .proofReserve _ | .proofStep _ | .ticketPlace | .burstError => []

/-- Two requests keep one order of arrival. -/
def sharesOwner (a b : List Owner) : Bool := a.any fun o => b.contains o

/-- The blocks and records at which a request continues the one that made it (R5). -/
def State.continues (s : State) (j : Job) : List Owner := (ownersOf j.act s).filter fun o => j.held.contains o

/-- The blocks and records at which a request keeps the order of arrival (R5). -/
def State.keeps (s : State) (j : Job) : List Owner := (ownersOf j.act s).filter fun o => !j.held.contains o

/-- A request that waits comes before this one at some owner (R5, R72, R115, R138). -/
def State.behindWaiting (s : State) (j : Job) : Bool := s.waiting.any fun k => sharesOwner (ownersOf k.act s) (s.keeps j)

/-! ## Room (R178) -/

/-- A request applied, with the requests it makes ahead of those in course. Each of them continues it where it was being applied (R5). -/
def State.attempt (j : Job) (s : State) : State :=
  let made := applyAct j.act { s with agenda := [] }
  { made with agenda := (made.agenda.map fun k => { k with held := ownersOf j.act s }) ++ s.agenda }

/-- The places a step has taken. -/
def State.placesTaken (before after : State) : Nat := after.occupied - before.occupied

/-- The steps that a timer or the block itself brings, and the retry of R77: one that waits already is not listed twice. -/
def Act.internal : Act → Bool
  | .cmd c =>
    match c with
    | .settingsApplied | .abandonExpiry _ | .cardSettleEnd _ | .identifyTimeout _ | .blockTimeout _ => true
    | .engineSilence _ | .printSilence _ | .printEndStep _ | .receiveQueueProcess | .linkSilence => true
    | .transmitGapElapsed | .transmitEnd | .responseExpiry | .queryExpiry | .counterReport => true
    | .cashFaultApplied | .cashBindApplied | .cashCreditApplied | .cashStrayApplied | .windowEndApplied => true
    | _ => false
  | .retryAwaiting => true
  | _ => false

/-- A stretch of the waiting line split about a request that continues another at some owners: what may stay ahead of it, and what comes after it,
which is what shares such an owner with it and what keeps an order of arrival with a request moved. -/
def State.splitLine (s : State) : List Owner → List Job → List Job × List Job
  | _, [] => ([], [])
  | later, k :: l =>
    if sharesOwner (ownersOf k.act s) later then
      let r := s.splitLine (later ++ ownersOf k.act s) l
      (r.1, k :: r.2)
    else
      let r := s.splitLine later l
      (k :: r.1, r.2)

/-- How far down the line a request goes: behind the last one before it at an owner it does not continue, and otherwise ahead of the first that
comes after it at an owner it does (log entry 44). -/
def State.lineIndex (s : State) (j : Job) : Nat :=
  let line := s.waiting.map fun k => ownersOf k.act s
  let behind := line.length - line.reverse.findIdx fun o => sharesOwner o (s.keeps j)
  let ahead := line.findIdx fun o => sharesOwner o (s.continues j)
  max behind ahead

/-- A request joins the waiting line, and with it those still in course that continue the same request at an owner of it (R5, R178). -/
def State.enqueueWait (j : Job) (s : State) : State :=
  if j.act.internal && s.waiting.any (fun k => k.act == j.act) then s
  else
    let follows (k : Job) := sharesOwner (s.continues k) (s.continues j)
    let at_ := s.lineIndex j
    let front := s.splitLine (s.continues j) (s.waiting.take at_)
    { s with
      agenda := s.agenda.filter fun k => !follows k
      waiting := front.1 ++ (j :: s.agenda.filter follows) ++ front.2 ++ s.waiting.drop at_ }

/-- The step finds its places free: it needs none, or enough are free and no producer waits (R178). -/
def State.hasRoom (before after : State) : Bool :=
  State.placesTaken before after == 0 || (before.waiting.isEmpty && decide (after.occupied ≤ Config.outcomePlaces))

/-- A request is applied, or waits (R5, R178). -/
def State.process (j : Job) (s : State) : State :=
  if s.behindWaiting j then s.enqueueWait j
  else
    let after := s.attempt j
    if State.hasRoom s after then after else s.enqueueWait j

/-- The first request of the line, after those given, that needs no place and that none ahead of it in the line comes before: it is held back by
nothing (R5, R72, R178). -/
def State.freeFollower (s : State) : List Job → List Job → Option (Job × List Job)
  | _, [] => none
  | ahead, k :: l =>
    if (ahead.any fun i => sharesOwner (ownersOf i.act s) (ownersOf k.act s))
        || State.placesTaken s (State.attempt k { s with waiting := ahead ++ l }) != 0 then
      s.freeFollower (ahead ++ [k]) l
    else some (k, ahead ++ l)

/-- The waiting line served, when it can be: the oldest waiting producer's step, when its places are free, or else the first request behind it that
is held back by nothing (R178). -/
def State.served (s : State) : Option State :=
  match s.waiting with
  | [] => none
  | j :: rest =>
    let after := State.attempt j { s with waiting := rest }
    if State.placesTaken s after == 0 || after.occupied ≤ Config.outcomePlaces then some after
    else (s.freeFollower [j] rest).map fun x => State.attempt x.1 { s with waiting := x.2 }

/-- The waiting line is served once, if it can be (R178). -/
def State.serveWaiting (s : State) : State := s.served.getD s

/-! ## What follows at once -/

/-- What the exchange controller and the mover do by themselves as soon as they can: the log writer takes up an outcome (R179), the
ticket writer an ending (R175), a quiet part in STOPPING stops (R186), an idle lane is granted (R191). -/
def State.housekeep (s : State) : Option State :=
  if s.exch.logWriter == .idle && !s.exch.outcomes.isEmpty && s.exch.logs then some s.startRecord
  else if s.exch.writer == .idle && !s.exch.completions.isEmpty && s.exch.part.servesTickets then
    some ((s.modExch fun x => { x with writer := .wantPlace }).push .ticketPlace)
  else if s.exch.part == .stopping && s.allQuiet then some s.stoppingTest
  else if s.mover.grant.isNone && !s.mover.requests.isEmpty then some s.grantNext
  else none

/-- The requests in course are applied, and what follows is done, until nothing is left to do. The first argument bounds the requests of one
step (log entry 5). -/
def State.drain : Nat → State → State
  | 0, s => s
  | k + 1, s =>
    match s.agenda with
    | j :: rest => State.drain k (State.process j { s with agenda := rest })
    | [] =>
      match s.housekeep with
      | some s => State.drain k s
      | none => s

/-- What follows a change that a command has made. -/
def State.settle (s : State) : State := s.drain Config.fuel

/-- A command's step joins the requests in course, and what follows is done. -/
def State.perform (a : Act) (s : State) : State := (s.push a).settle

end Sys2Proof.Machine
end

