-- ==== Sys2Proof/Machine/Timers.lean ====
section
/-! DEFINITION. The moments at which the part's timers expire, gathered: each is none while its timer does not run. An expiry commanded
from outside stands for its moment (log entry 4). -/

namespace Sys2Proof.Machine

/-- The clock brought to a timer's moment, if the timer runs. -/
def State.advance (t : Option Nat) (s : State) : State :=
  match t with
  | some t => s.advanceTo t
  | none => s

/-- The end of a slot's settle time (R49). -/
def State.settleEndAt (s : State) (n : Fin 4) : Option Nat :=
  let x := s.slots.get n
  if x.state == .settled && !x.removalWaits then some (x.since + Config.settleTime) else none

/-- The end of the wait for an identify answer (R51). -/
def State.identifyAt (s : State) (n : Fin 4) : Option Nat :=
  let x := s.slots.get n
  if x.state == .identifying && x.request == some .identify then some (x.since + Config.identifyWait) else none

/-- The end of the wait for a block answer (R59). -/
def State.blockAt (s : State) (n : Fin 4) : Option Nat :=
  let x := s.slots.get n
  match x.request with
  | some (.block _) => some (x.since + Config.blockWait)
  | _ => none

/-- The moment a mechanism's silence outside a print is reached (R118). -/
def State.silentAt (s : State) (e : Fin 2) : Option Nat :=
  let p := s.ports.get e
  if p.watching && p.state.fallsSilent then some (p.heardAt + Config.engineSilence) else none

/-- The moment the gap of a print is reached (R122). -/
def State.gapAt (s : State) (e : Fin 2) : Option Nat :=
  let p := s.ports.get e
  if p.awaitsSignal then some (p.signalAt + Config.printGap) else none

/-- The moment a frame in assembly is discarded: the first at which the gap is more than 20 ms (R140). -/
def State.receiveGapAt (s : State) : Option Nat :=
  if s.tender.rx.isEmpty then none else some (s.tender.rxLast + Config.receiveGap + 1)

/-- The moment a frame may start (R145). -/
def State.frameAt (s : State) : Option Nat := if s.tender.wantsFrame then s.tender.gapEnd else none

/-- The end of the frame in transmission (R146). -/
def State.transmitAt (s : State) : Option Nat := s.tender.tx.map fun x => x.started + x.duration

/-- The expiry of the outstanding request in phase AWAIT_RESULT (R148). -/
def State.responseAt (s : State) : Option Nat :=
  match s.tender.outstanding with
  | some o => if o.phase == .awaitResult then o.expiry else none
  | none => none

/-- The expiry of the outstanding request's query (R148). -/
def State.queryAt (s : State) : Option Nat :=
  match s.tender.outstanding with
  | some o => if o.phase == .awaitResult then none else o.expiry
  | none => none

/-- The end of the settle window, while its end event is not listed (R163). -/
def State.windowAt (s : State) : Option Nat :=
  if s.cash.phase == .window && !s.cash.endListed then s.cash.windowEnd else none

/-- The expiry of an order's abandon timer (R14). -/
def State.abandonOf (s : State) (n : Nat) : Option Nat :=
  match s.findOrder n with
  | some o => s.abandonAt o
  | none => none

end Sys2Proof.Machine
end

