-- ==== Sys2Proof/Machine/CardCommands.lean ====
section
/-! DEFINITION. The events at the card slots and CARD_READ (Card Intake). One meaning
for each command. -/

namespace Sys2Proof.Machine

/-- R47: the present run reaches 200. -/
def execCardInsertion (slot : Fin 4) (s : State) : Host.Outcome State Fault Refusal :=
  .next ((s.declareInsertion slot).settle)

/-- R47: the absent run reaches the removal criterion. -/
def execCardRemoval (slot : Fin 4) (s : State) : Host.Outcome State Fault Refusal :=
  .next ((s.declareRemoval slot).settle)

/-- R49: the settle time ends. -/
def execCardSettleEnd (slot : Fin 4) (s : State) : Host.Outcome State Fault Refusal :=
  .next ((s.advance (s.settleEndAt slot)).perform (.cmd (.cardSettleEnd slot)))

/-- R51: an identify answer. One that finds no identify request outstanding is discarded as it arrives. -/
def execIdentifyAnswer (slot : Fin 4) (capacity check : Nat) (s : State) : Host.Outcome State Fault Refusal :=
  .next (if (s.slots.get slot).awaitsIdentify then s.perform (.cmd (.identifyAnswer slot capacity check)) else s)

/-- R51: no identify answer within 100 ms. -/
def execIdentifyTimeout (slot : Fin 4) (s : State) : Host.Outcome State Fault Refusal :=
  .next ((s.advance (s.identifyAt slot)).perform (.cmd (.identifyTimeout slot)))

/-- R55, R56, R57: CARD_READ. While its slot's read queue is full it is left untaken, but for one that has been taken and handed on. -/
def execCardRead (t : Ticket) (slot item : Nat) (extents : List Extent) (s : State) : Host.Outcome State Fault Refusal :=
  .next (if !s.handedOn t && s.declinesRead slot then s
    else s.taking t fun v => (v.cardRead t item extents (s.readVerdict t slot item extents)).settle)

/-- R59: a block answer. One that finds no block request outstanding is discarded as it arrives. -/
def execBlockAnswer (slot : Fin 4) (data : List Byte) (check : Nat) (s : State) : Host.Outcome State Fault Refusal :=
  .next (if (s.slots.get slot).awaitsBlock then s.perform (.cmd (.blockAnswer slot data check)) else s)

/-- R59, R60: no block answer within 50 ms. -/
def execBlockTimeout (slot : Fin 4) (s : State) : Host.Outcome State Fault Refusal :=
  .next ((s.advance (s.blockAt slot)).perform (.cmd (.blockTimeout slot)))

end Sys2Proof.Machine
end

