-- ==== Sys2Proof/Machine/CashCommands.lean ====
section
/-! DEFINITION. The cash acceptor (Cash Acceptor). One meaning
for each command. -/

namespace Sys2Proof.Machine

/-- R159, R164: a low run completes. -/
def execCashPulseCompleted (length : Nat) (s : State) : Host.Outcome State Fault Refusal :=
  .next ((s.pulseCompleted length).settle)

/-- R160: the 500th low sample of a run. -/
def execLineFaultSet (s : State) : Host.Outcome State Fault Refusal :=
  .next (s.lineFaultSet.settle)

/-- R160: the 1,000th high sample since the fault. -/
def execLineFaultCleared (s : State) : Host.Outcome State Fault Refusal :=
  .next (s.lineFaultCleared.settle)

/-- R160: a FAULT or FAULT_CLEARED event at the head of the list. -/
def execCashFaultApplied (s : State) : Host.Outcome State Fault Refusal :=
  .next (s.perform (.cmd .cashFaultApplied))

/-- PAY_CASH_BIND at its take (R161): with a BOUND event in the list it is refused BUSY at once (log entry 31), with the list empty it is checked, and
otherwise it waits TAKEN for the list to empty. -/
def State.payCashBind (t : Ticket) (s : State) : State :=
  if s.cash.bindListed.isSome then (s.checkBind t).settle
  else if s.cash.list.isEmpty then s.perform (.cmd (.payCashBind t))
  else (s.modCash fun c => { c with bindWaiting := c.bindWaiting ++ [t] }).settle

/-- R161: PAY_CASH_BIND. -/
def execPayCashBind (t : Ticket) (s : State) : Host.Outcome State Fault Refusal :=
  .next (s.taking t (State.payCashBind t))

/-- R161: the BOUND event at the head of the list. -/
def execCashBindApplied (s : State) : Host.Outcome State Fault Refusal :=
  .next (s.perform (.cmd .cashBindApplied))

/-- R163: PAY_CASH_UNBIND. -/
def execPayCashUnbind (t : Ticket) (s : State) : Host.Outcome State Fault Refusal :=
  .next (s.taking t (State.perform (.cmd (.payCashUnbind t))))

/-- R163: the settle window reaches its end. -/
def execSettleWindowExpiry (s : State) : Host.Outcome State Fault Refusal :=
  .next ((s.advance s.windowAt).windowExpired.settle)

/-- R165: a credit group at the head of the list. -/
def execCashCreditApplied (s : State) : Host.Outcome State Fault Refusal :=
  .next (s.perform (.cmd .cashCreditApplied))

/-- R166: a STRAY group at the head of the list. -/
def execCashStrayApplied (s : State) : Host.Outcome State Fault Refusal :=
  .next (s.perform (.cmd .cashStrayApplied))

/-- R167: the window's end event at the head of the list. -/
def execWindowEndApplied (s : State) : Host.Outcome State Fault Refusal :=
  .next (s.perform (.cmd .windowEndApplied))

end Sys2Proof.Machine
end

