-- ==== Sys2Proof/Machine/EngineCommands.lean ====
section
/-! DEFINITION. ENGINE_CONTROL, MEDIA_SET, ENGINE_PROOF and the mechanisms' signals (Print Engines, Print Scheduling, Line Rendering). One meaning
for each command. -/

namespace Sys2Proof.Machine

/-- R94: ENGINE_CONTROL EVACUATE. -/
def execEngineControlEvacuate (t : Ticket) (engine : Nat) (s : State) : Host.Outcome State Fault Refusal :=
  .next (s.taking t (State.perform (.cmd (.engineControlEvacuate t engine))))

/-- R129: ENGINE_CONTROL PAUSE. -/
def execEngineControlPause (t : Ticket) (engine : Nat) (s : State) : Host.Outcome State Fault Refusal :=
  .next (s.taking t (State.perform (.cmd (.engineControlPause t engine))))

/-- R130: ENGINE_CONTROL RESUME. -/
def execEngineControlResume (t : Ticket) (engine : Nat) (s : State) : Host.Outcome State Fault Refusal :=
  .next (s.taking t (State.perform (.cmd (.engineControlResume t engine))))

/-- R132: ENGINE_CONTROL RESET. -/
def execEngineControlReset (t : Ticket) (engine : Nat) (s : State) : Host.Outcome State Fault Refusal :=
  .next (s.taking t (State.perform (.cmd (.engineControlReset t engine))))

/-- R133: MEDIA_SET. -/
def execMediaSet (t : Ticket) (engine kind sheets ribbons : Nat) (s : State) : Host.Outcome State Fault Refusal :=
  .next (s.taking t (State.perform (.cmd (.mediaSet t engine kind sheets ribbons))))

/-- R110, R135: ENGINE_PROOF. -/
def execEngineProof (t : Ticket) (engine profile finish temp lines source dest : Nat) (s : State) : Host.Outcome State Fault Refusal :=
  .next (s.taking t (State.perform (.cmd (.engineProof t engine profile finish temp lines source dest))))

/-- R116, R121: READY. -/
def execMechReady (engine : Fin 2) (temp : Nat) (s : State) : Host.Outcome State Fault Refusal :=
  .next (s.perform (.cmd (.mechReady engine temp)))

/-- R125, R131: a FAULT report. -/
def execMechFault (engine : Fin 2) (code : MechFaultCode) (s : State) : Host.Outcome State Fault Refusal :=
  .next (s.perform (.cmd (.mechFault engine code)))

/-- R121: LINE_REQUEST. -/
def execMechLineRequest (engine : Fin 2) (temp : Nat) (s : State) : Host.Outcome State Fault Refusal :=
  .next (s.perform (.cmd (.mechLineRequest engine temp)))

/-- R121: EJECT_DONE. -/
def execMechEjectDone (engine : Fin 2) (temp : Nat) (s : State) : Host.Outcome State Fault Refusal :=
  .next (s.perform (.cmd (.mechEjectDone engine temp)))

/-- R118: 1,000 ms of silence outside a print. -/
def execEngineSilence (engine : Fin 2) (s : State) : Host.Outcome State Fault Refusal :=
  .next ((s.advance (s.silentAt engine)).perform (.cmd (.engineSilence engine)))

/-- R122: a gap of 2,000 ms during a print. -/
def execPrintSilence (engine : Fin 2) (s : State) : Host.Outcome State Fault Refusal :=
  .next ((s.advance (s.gapAt engine)).perform (.cmd (.printSilence engine)))

/-- R124: the print end step. -/
def execPrintEndStep (engine : Fin 2) (s : State) : Host.Outcome State Fault Refusal :=
  .next (s.perform (.cmd (.printEndStep engine)))

end Sys2Proof.Machine
end

