-- ==== Sys2Proof/Machine/ExchangeCommands.lean ====
section
/-! DEFINITION. The exchange controller, the memory mover, the counter block and the tables they load: scan and log timers, settings, waiting producers, bursts, LOAD_PRICES, LOAD_TONE, REFRESH_SETTINGS, READ_COUNTERS and reports. One meaning
for each command. -/

namespace Sys2Proof.Machine

/-- R176: the scan timer expires. Nothing happens while the timer does not run. -/
def execScanTimerExpiry (s : State) : Host.Outcome State Fault Refusal :=
  .next ((match s.scanAt with | some t => (s.advanceTo t).scanTrigger | none => s).settle)

/-- R181: the linger has passed since the first unannounced record. Nothing happens while the count is 0. -/
def execLogLingerExpiry (s : State) : Host.Outcome State Fault Refusal :=
  .next ((match s.lingerAt with | some t => (s.advanceTo t).announce | none => s).settle)

/-- R172, R185: the settings read are applied with their outcome. -/
def execSettingsApplied (s : State) : Host.Outcome State Fault Refusal :=
  .next (s.perform (.cmd .settingsApplied))

/-- R178: the oldest waiting producer's step is made if its places are free. -/
def execWaitingProducerStep (s : State) : Host.Outcome State Fault Refusal :=
  .next (s.serveWaiting.settle)

/-- R192, R193: the current burst ends, and the lane is granted again. -/
def execBurstEnd (result : BurstResult) (s : State) : Host.Outcome State Fault Refusal :=
  .next ((s.finishBurst result).settle)

/-- R192: a read burst has had no data for 50 ms. -/
def execBurstReadTimeout (s : State) : Host.Outcome State Fault Refusal :=
  .next ((s.advance s.mover.timeoutAt).burstTimedOut.settle)

/-- R31: LOAD_PRICES. -/
def execLoadPrices (t : Ticket) (address : Nat) (s : State) : Host.Outcome State Fault Refusal :=
  .next (s.taking t fun s => (s.forLiveOrder t kindLoadPrices (State.loadPrices t address)).settle)

/-- R99: LOAD_TONE. -/
def execLoadTone (t : Ticket) (profile colour address : Nat) (s : State) : Host.Outcome State Fault Refusal :=
  .next (s.taking t fun s => (s.forLiveOrder t kindLoadTone (State.loadTone t profile colour address)).settle)

/-- R172: REFRESH_SETTINGS. -/
def execRefreshSettings (t : Ticket) (s : State) : Host.Outcome State Fault Refusal :=
  .next (s.taking t fun s => (s.forLiveOrder t kindRefreshSettings (State.refreshSettings t)).settle)

/-- R199: READ_COUNTERS. -/
def execReadCounters (t : Ticket) (s : State) : Host.Outcome State Fault Refusal :=
  .next (s.taking t fun s => (s.forLiveOrder t kindReadCounters (State.readCounters t)).settle)

/-- R198: the report timer expires. -/
def execReportTimerExpiry (s : State) : Host.Outcome State Fault Refusal :=
  .next ((s.advance s.reportAt).reportTimerExpired.settle)

/-- R197: the due report is queued and the counters start again. -/
def execCounterReport (s : State) : Host.Outcome State Fault Refusal :=
  .next (s.perform (.cmd .counterReport))

/-- R192: the kiosk processor enables or disables the part to master the bus. -/
def execBusMasterEnableChange (enabled : Bool) (s : State) : Host.Outcome State Fault Refusal :=
  .next ((s.modExch fun x => { x with busMaster := enabled }).settle)

end Sys2Proof.Machine
end

