-- ==== Sys2Proof/Machine/OrderCommands.lean ====
section
/-! DEFINITION. The order tickets and the abandon expiry (Orders). One meaning
for each command. -/

namespace Sys2Proof.Machine

/-- R7: ORDER_OPEN. -/
def execOrderOpen (t : Ticket) (station cls profile finish : Nat) (s : State) : Host.Outcome State Fault Refusal :=
  .next (if s.leavesTicket t then s
    else (s.acceptOpen t).perform (.openOrder t station cls profile finish (s.takeTime t)))

/-- R8: ORDER_ADD_ITEMS. -/
def execOrderAddItems (t : Ticket) (items : List ItemDesc) (s : State) : Host.Outcome State Fault Refusal :=
  .next (s.taking t (State.perform (.cmd (.orderAddItems t items))))

/-- R9: ORDER_QUOTE. -/
def execOrderQuote (t : Ticket) (s : State) : Host.Outcome State Fault Refusal :=
  .next (s.taking t (State.perform (.cmd (.orderQuote t))))

/-- R19: ORDER_CANCEL. -/
def execOrderCancel (t : Ticket) (s : State) : Host.Outcome State Fault Refusal :=
  .next (s.taking t (State.perform (.cmd (.orderCancel t))))

/-- R18: ORDER_DROP_ITEM. -/
def execOrderDropItem (t : Ticket) (item : Nat) (s : State) : Host.Outcome State Fault Refusal :=
  .next (s.taking t (State.perform (.cmd (.orderDropItem t item))))

/-- R26: ORDER_RESOLVE. -/
def execOrderResolve (t : Ticket) (answer reference amount : Nat) (s : State) : Host.Outcome State Fault Refusal :=
  .next (s.taking t (State.perform (.cmd (.orderResolve t answer reference amount))))

/-- R14: the abandon timer of an order expires. -/
def execAbandonExpiry (order : Nat) (s : State) : Host.Outcome State Fault Refusal :=
  .next ((s.advance (s.abandonOf order)).perform (.cmd (.abandonExpiry order)))

end Sys2Proof.Machine
end

