-- ==== Sys2Proof/Machine/RegisterCommands.lean ====
section
/-! DEFINITION. The register window and the resets (9.1, 9.7, 9.8): CONTROL, NUDGE, the attention registers, EXCH_BASE, and the three resets. One meaning
for each command. -/

namespace Sys2Proof.Machine

/-- R184, R185: RUN to CONTROL. -/
def execRun (s : State) : Host.Outcome State Fault Refusal :=
  .next (s.controlRun.settle)

/-- R184, R186: STOP to CONTROL. -/
def execStop (s : State) : Host.Outcome State Fault Refusal :=
  .next (s.controlStop.settle)

/-- R188: SOFT_RESET to CONTROL acts in every state. -/
def execSoftReset (s : State) : Host.Outcome State Fault Refusal :=
  .next (s.softReset)

/-- R176: a write to NUDGE, whatever its value, is a scan request. -/
def execNudge (_value : Word32) (s : State) : Host.Outcome State Fault Refusal :=
  .next (s.scanTrigger.settle)

/-- R182, R183: a write to ATTN_CAUSE. -/
def execAttnCauseWrite (value : Word32) (s : State) : Host.Outcome State Fault Refusal :=
  .next (s.writeAttnCause value)

/-- R183: a write to ATTN_ENABLE. -/
def execAttnEnableWrite (value : Word32) (s : State) : Host.Outcome State Fault Refusal :=
  .next (s.writeAttnEnable value)

/-- R169: a write to EXCH_BASE_LOW. -/
def execExchBaseLowWrite (value : Word32) (s : State) : Host.Outcome State Fault Refusal :=
  .next (s.writeBaseLow value)

/-- R169: a write to EXCH_BASE_HIGH. -/
def execExchBaseHighWrite (value : Word32) (s : State) : Host.Outcome State Fault Refusal :=
  .next (s.writeBaseHigh value)

/-- R170: a write to IDENT or STATE, or to CONTROL with none of the three action codes. -/
def execRegisterWriteNoEffect (_offset : Nat) (_value : Word32) (s : State) : Host.Outcome State Fault Refusal :=
  .next (s)

/-- R188, R169: power-on reset sets all state, EXCH_BASE included. -/
def execPowerOnReset (s : State) : Host.Outcome State Fault Refusal :=
  .next (s.afterReset)

/-- R188: a reset by the link acts as a soft reset. -/
def execLinkReset (s : State) : Host.Outcome State Fault Refusal :=
  .next (s.softReset)

end Sys2Proof.Machine
end

