-- ==== Sys2Proof/Machine/TenderCommands.lean ====
section
/-! DEFINITION. The tender link and its loopback (Tender Link, 11.3). One meaning
for each command. -/

namespace Sys2Proof.Machine

/-- R140, R141: bytes of the line at the receiver. -/
def execTenderFrameReceived (bytes : List Byte) (s : State) : Host.Outcome State Fault Refusal :=
  .next ((s.lineBytes bytes).settle)

/-- R140: a gap of more than 20 ms within a frame. -/
def execReceiveGapTimeout (s : State) : Host.Outcome State Fault Refusal :=
  .next ((s.advance s.receiveGapAt).receiveGap.settle)

/-- R141: the head of the receive queue is processed. -/
def execReceiveQueueProcess (s : State) : Host.Outcome State Fault Refusal :=
  .next (s.perform (.cmd .receiveQueueProcess))

/-- R143: 3,000 ms with no valid frame. -/
def execLinkSilence (s : State) : Host.Outcome State Fault Refusal :=
  .next ((s.advance s.tender.silenceAt).perform (.cmd .linkSilence))

/-- R145, R146: the gap has passed and the chosen frame starts. -/
def execTransmitGapElapsed (s : State) : Host.Outcome State Fault Refusal :=
  .next ((s.advance s.frameAt).perform (.cmd .transmitGapElapsed))

/-- R146: the last stop bit of a frame. -/
def execTransmitEnd (s : State) : Host.Outcome State Fault Refusal :=
  .next ((s.advance s.transmitAt).perform (.cmd .transmitEnd))

/-- R148: the outstanding request's expiry. -/
def execResponseExpiry (s : State) : Host.Outcome State Fault Refusal :=
  .next ((s.advance s.responseAt).perform (.cmd .responseExpiry))

/-- R149: the query's expiry. -/
def execQueryExpiry (s : State) : Host.Outcome State Fault Refusal :=
  .next ((s.advance s.queryAt).perform (.cmd .queryExpiry))

/-- R153: PAY_CARD. -/
def execPayCard (t : Ticket) (s : State) : Host.Outcome State Fault Refusal :=
  .next (s.taking t (State.perform (.cmd (.payCard t))))

/-- R200: LINK_TEST LOOP_ON. -/
def execLinkTestLoopOn (t : Ticket) (mode : Nat) (s : State) : Host.Outcome State Fault Refusal :=
  .next (s.taking t (State.perform (.cmd (.linkTestLoopOn t mode))))

/-- R200: LINK_TEST LOOP_OFF. -/
def execLinkTestLoopOff (t : Ticket) (s : State) : Host.Outcome State Fault Refusal :=
  .next (s.taking t (State.perform (.cmd (.linkTestLoopOff t))))

/-- R201: LINK_TEST SEND. -/
def execLinkTestSend (t : Ticket) (count : Nat) (s : State) : Host.Outcome State Fault Refusal :=
  .next (s.taking t (State.perform (.cmd (.linkTestSend t count))))

/-- R202: LINK_TEST INSERT_ERROR. -/
def execLinkTestInsertError (t : Ticket) (s : State) : Host.Outcome State Fault Refusal :=
  .next (s.taking t (State.perform (.cmd (.linkTestInsertError t))))

end Sys2Proof.Machine
end

