-- ==== Sys2Proof/Machine/Dispatch.lean ====
section
/-! DEFINITION. The meaning of each command: one arm, one direct call. -/

namespace Sys2Proof.Machine

def exec (i : Instr) (s : State) : Host.Outcome State Fault Refusal :=
  match i with
  | .run => Sys2Proof.Machine.execRun s
  | .stop => Sys2Proof.Machine.execStop s
  | .softReset => Sys2Proof.Machine.execSoftReset s
  | .nudge value => Sys2Proof.Machine.execNudge value s
  | .attnCauseWrite value => Sys2Proof.Machine.execAttnCauseWrite value s
  | .attnEnableWrite value => Sys2Proof.Machine.execAttnEnableWrite value s
  | .exchBaseLowWrite value => Sys2Proof.Machine.execExchBaseLowWrite value s
  | .exchBaseHighWrite value => Sys2Proof.Machine.execExchBaseHighWrite value s
  | .registerWriteNoEffect offset value => Sys2Proof.Machine.execRegisterWriteNoEffect offset value s
  | .powerOnReset => Sys2Proof.Machine.execPowerOnReset s
  | .linkReset => Sys2Proof.Machine.execLinkReset s
  | .scanTimerExpiry => Sys2Proof.Machine.execScanTimerExpiry s
  | .logLingerExpiry => Sys2Proof.Machine.execLogLingerExpiry s
  | .settingsApplied => Sys2Proof.Machine.execSettingsApplied s
  | .waitingProducerStep => Sys2Proof.Machine.execWaitingProducerStep s
  | .burstEnd result => Sys2Proof.Machine.execBurstEnd result s
  | .burstReadTimeout => Sys2Proof.Machine.execBurstReadTimeout s
  | .orderOpen t station cls profile finish => Sys2Proof.Machine.execOrderOpen t station cls profile finish s
  | .orderAddItems t items => Sys2Proof.Machine.execOrderAddItems t items s
  | .orderQuote t => Sys2Proof.Machine.execOrderQuote t s
  | .orderCancel t => Sys2Proof.Machine.execOrderCancel t s
  | .orderDropItem t item => Sys2Proof.Machine.execOrderDropItem t item s
  | .orderResolve t answer reference amount => Sys2Proof.Machine.execOrderResolve t answer reference amount s
  | .abandonExpiry order => Sys2Proof.Machine.execAbandonExpiry order s
  | .loadPrices t address => Sys2Proof.Machine.execLoadPrices t address s
  | .cardInsertion slot => Sys2Proof.Machine.execCardInsertion slot s
  | .cardRemoval slot => Sys2Proof.Machine.execCardRemoval slot s
  | .cardSettleEnd slot => Sys2Proof.Machine.execCardSettleEnd slot s
  | .identifyAnswer slot capacity check => Sys2Proof.Machine.execIdentifyAnswer slot capacity check s
  | .identifyTimeout slot => Sys2Proof.Machine.execIdentifyTimeout slot s
  | .cardRead t slot item extents => Sys2Proof.Machine.execCardRead t slot item extents s
  | .blockAnswer slot data check => Sys2Proof.Machine.execBlockAnswer slot data check s
  | .blockTimeout slot => Sys2Proof.Machine.execBlockTimeout slot s
  | .engineControlEvacuate t engine => Sys2Proof.Machine.execEngineControlEvacuate t engine s
  | .engineControlPause t engine => Sys2Proof.Machine.execEngineControlPause t engine s
  | .engineControlResume t engine => Sys2Proof.Machine.execEngineControlResume t engine s
  | .engineControlReset t engine => Sys2Proof.Machine.execEngineControlReset t engine s
  | .mediaSet t engine kind sheets ribbons => Sys2Proof.Machine.execMediaSet t engine kind sheets ribbons s
  | .engineProof t engine profile finish temp lines source dest => Sys2Proof.Machine.execEngineProof t engine profile finish temp lines source dest s
  | .loadTone t profile colour address => Sys2Proof.Machine.execLoadTone t profile colour address s
  | .mechReady engine temp => Sys2Proof.Machine.execMechReady engine temp s
  | .mechFault engine code => Sys2Proof.Machine.execMechFault engine code s
  | .mechLineRequest engine temp => Sys2Proof.Machine.execMechLineRequest engine temp s
  | .mechEjectDone engine temp => Sys2Proof.Machine.execMechEjectDone engine temp s
  | .engineSilence engine => Sys2Proof.Machine.execEngineSilence engine s
  | .printSilence engine => Sys2Proof.Machine.execPrintSilence engine s
  | .printEndStep engine => Sys2Proof.Machine.execPrintEndStep engine s
  | .tenderFrameReceived bytes => Sys2Proof.Machine.execTenderFrameReceived bytes s
  | .receiveGapTimeout => Sys2Proof.Machine.execReceiveGapTimeout s
  | .receiveQueueProcess => Sys2Proof.Machine.execReceiveQueueProcess s
  | .linkSilence => Sys2Proof.Machine.execLinkSilence s
  | .transmitGapElapsed => Sys2Proof.Machine.execTransmitGapElapsed s
  | .transmitEnd => Sys2Proof.Machine.execTransmitEnd s
  | .responseExpiry => Sys2Proof.Machine.execResponseExpiry s
  | .queryExpiry => Sys2Proof.Machine.execQueryExpiry s
  | .payCard t => Sys2Proof.Machine.execPayCard t s
  | .linkTestLoopOn t mode => Sys2Proof.Machine.execLinkTestLoopOn t mode s
  | .linkTestLoopOff t => Sys2Proof.Machine.execLinkTestLoopOff t s
  | .linkTestSend t count => Sys2Proof.Machine.execLinkTestSend t count s
  | .linkTestInsertError t => Sys2Proof.Machine.execLinkTestInsertError t s
  | .cashPulseCompleted length => Sys2Proof.Machine.execCashPulseCompleted length s
  | .lineFaultSet => Sys2Proof.Machine.execLineFaultSet s
  | .lineFaultCleared => Sys2Proof.Machine.execLineFaultCleared s
  | .cashFaultApplied => Sys2Proof.Machine.execCashFaultApplied s
  | .payCashBind t => Sys2Proof.Machine.execPayCashBind t s
  | .cashBindApplied => Sys2Proof.Machine.execCashBindApplied s
  | .payCashUnbind t => Sys2Proof.Machine.execPayCashUnbind t s
  | .settleWindowExpiry => Sys2Proof.Machine.execSettleWindowExpiry s
  | .cashCreditApplied => Sys2Proof.Machine.execCashCreditApplied s
  | .cashStrayApplied => Sys2Proof.Machine.execCashStrayApplied s
  | .windowEndApplied => Sys2Proof.Machine.execWindowEndApplied s
  | .refreshSettings t => Sys2Proof.Machine.execRefreshSettings t s
  | .readCounters t => Sys2Proof.Machine.execReadCounters t s
  | .reportTimerExpiry => Sys2Proof.Machine.execReportTimerExpiry s
  | .counterReport => Sys2Proof.Machine.execCounterReport s
  | .busMasterEnableChange enabled => Sys2Proof.Machine.execBusMasterEnableChange enabled s

end Sys2Proof.Machine
end

