-- ==== Sys2Proof/Machine/Idle.lean ====
section
/-! DEFINITION. What the part does when no command waits (log entry 6): it goes on with what it has begun, makes an internal step
that is due, or lets a millisecond pass and samples its inputs. -/

namespace Sys2Proof.Machine

/-! ## Internal steps that are due -/

/-- A command's step stands in the waiting line already. -/
def State.waits (s : State) (c : Instr) : Bool := s.waiting.any fun j => j.act == .cmd c

/-- A command, when a condition holds and its step does not wait already. -/
def State.dueIf (s : State) (cond : Bool) (c : Instr) : Option Instr := if cond && !s.waits c then some c else none

/-- A command whose timer's moment has been reached. -/
def State.dueAt (s : State) (t : Option Nat) (c : Instr) : Option Instr :=
  match t with
  | some t => s.dueIf (reached s.clock t) c
  | none => none

/-- The command of the oldest ticket handed on to its block (R174). -/
def State.handedDue (s : State) : Option Instr := s.exch.handed.head?.bind fun h => commandOf h.header h.body

/-- The oldest ticket handed on has no action that 12.4 gives: it is its block's to refuse, and no row of the table names it (R132, R200). -/
def State.refusalDue (s : State) : Option Act :=
  match s.exch.handed with
  | h :: _ =>
    match commandOf h.header h.body with
    | none => some (.refuse h.header.ticket h.header.kind (actionRefusal h.header h.body).1 (actionRefusal h.header h.body).2)
    | some _ => none
  | [] => none

/-- The command that applies the head of the cash acceptor's waiting list (R157). -/
def cashCommand : CashItem → Instr
  | .credit (some _) _ => .cashCreditApplied
  | .credit none _ => .cashStrayApplied
  | .bind _ _ _ => .cashBindApplied
  | .windowEnd => .windowEndApplied
  | .fault => .cashFaultApplied
  | .faultCleared => .cashFaultApplied

/-- A print end step is to be made, and none waits (R124). -/
def State.printEndDue (s : State) (e : Fin 2) : Option Instr :=
  let p := s.ports.get e
  s.dueIf (p.record.isSome && p.phase == some .ended && !(s.waiting.any fun j => j.act == .printEnd e)) (.printEndStep e)

/-- The steps of the blocks that wait for nothing but their turn. -/
def State.stepsDue (s : State) : List (Option Instr) :=
  [ if s.served.isSome then some .waitingProducerStep else none
  , s.handedDue
  , s.dueIf s.exch.setupReady.isSome .settingsApplied
  , s.printEndDue 0
  , s.printEndDue 1
  , s.dueIf (!s.tender.queue.isEmpty) .receiveQueueProcess
  , s.cash.list.head?.bind fun i => s.dueIf true (cashCommand i)
  , s.dueIf s.counters.due.isSome .counterReport
  , s.dueIf (s.tender.wantsFrame && s.gapPassed) .transmitGapElapsed ]

/-- The detectors' declarations (R47, R160). -/
def State.samplesDue (s : State) : List (Option Instr) :=
  (slotNumbers.map fun n =>
    let x := s.slots.get n
    if !s.exch.ranOnce || x.waiting.isSome then none
    else if x.declared then (if s.removalCriterion ≤ x.absentRun then some (.cardRemoval n) else none)
    else if 200 ≤ x.presentRun then some (.cardInsertion n)
    else none)
  ++ [ if s.cash.sampling && !s.cash.lineFault && 500 ≤ s.cash.lowRun then some .lineFaultSet else none
     , if s.cash.lineFault && 1000 ≤ s.cash.highRun then some .lineFaultCleared else none ]

/-- The timers (Machine/Timers.lean). A scan timer that expires while a rescan is owed changes nothing (R176). -/
def State.timersDue (s : State) : List (Option Instr) :=
  [ s.dueAt s.mover.timeoutAt .burstReadTimeout, s.dueAt s.transmitAt .transmitEnd, s.dueAt s.receiveGapAt .receiveGapTimeout
  , s.dueAt s.responseAt .responseExpiry, s.dueAt s.queryAt .queryExpiry, s.dueAt s.tender.silenceAt .linkSilence
  , s.dueAt s.windowAt .settleWindowExpiry, s.dueAt s.lingerAt .logLingerExpiry
  , if s.exch.rescanOwed then none else s.dueAt s.scanAt .scanTimerExpiry, s.dueAt s.reportAt .reportTimerExpiry ]
  ++ (slotNumbers.map fun n => s.dueAt (s.settleEndAt n) (.cardSettleEnd n))
  ++ (slotNumbers.map fun n => s.dueAt (s.identifyAt n) (.identifyTimeout n))
  ++ (slotNumbers.map fun n => s.dueAt (s.blockAt n) (.blockTimeout n))
  ++ (engines.map fun e => s.dueAt (s.silentAt e) (.engineSilence e))
  ++ (engines.map fun e => s.dueAt (s.gapAt e) (.printSilence e))
  ++ (s.orders.map fun o => s.dueAt (s.abandonAt o) (.abandonExpiry o.number))

/-- The first internal step that is due. -/
def State.due (s : State) : Option Instr := (s.stepsDue ++ s.samplesDue ++ s.timersDue).findSome? id

/-! ## A millisecond -/

/-- One sample of a card-detect line (R47): none before the first RUNNING; each run stops at the figure that declares. -/
def Slot.sample (x : Slot) : Slot :=
  if x.declared then { x with absentRun := if x.detect then 0 else min 32 (x.absentRun + 1) }
  else { x with presentRun := if x.detect then min 200 (x.presentRun + 1) else 0 }

/-- One sample of every card-detect line (R47). -/
def State.sampleCards (s : State) : State :=
  if s.exch.ranOnce then
    { s with slots := ⟨s.slots.zero.sample, s.slots.one.sample, s.slots.two.sample, s.slots.three.sample⟩ }
  else s

/-- One sample of the pulse line (R159, R160). -/
def State.samplePulse (s : State) : State :=
  let c := s.cash
  if !c.sampling then s
  else if c.lineFault then
    { s with cash := { c with highRun := if c.lineHigh then min 1000 (c.highRun + 1) else 0, lowRun := if c.lineHigh then 0 else c.lowRun } }
  else if !c.lineHigh then { s with cash := { c with lowRun := min 500 (c.lowRun + 1) } }
  else if 0 < c.lowRun && c.lowRun < 500 then s.pulseCompleted c.lowRun
  else s

/-- A millisecond of the part's clock passes, and the inputs are sampled. -/
def State.tick (s : State) : State := (State.sampleCards { s with clock := clockAt (s.clock + 1) }).samplePulse

/-- What the part does when no command waits. -/
def idleStep (s : State) : Host.Outcome State Fault Refusal :=
  if !s.agenda.isEmpty then .next s.settle
  else
    match s.refusalDue with
    | some a => .next ((s.modExch fun x => { x with handed := x.handed.tail }).perform a)
    | none =>
      match s.due with
      | some c => exec c s
      | none => .next s.tick.settle

end Sys2Proof.Machine
end

