-- ==== Sys2Proof/Safety.lean ====
section
/-! DEFINITION. The terms in which claims about the KQ-40 are stated: the conditions that hold in every run (R3, R162, R169, R178), a part that
is ready to make a command's step at once, and a state with the exchange controller's own course set aside. -/

namespace Sys2Proof.Machine

/-! ## What holds in every run -/

/-- The pending outcome queue holds its 16 places at most (R178). -/
abbrev State.withinRoom (s : State) : Prop := s.occupied ≤ Config.outcomePlaces

/-- Inhibit is RELEASED while the four conditions of R162 hold, and ASSERTED at every other time. -/
abbrev Cash.obeysR162 (c : Cash) : Prop :=
  c.inhibit = false ↔ c.phase = .bound ∧ c.lineFault = false ∧ c.seen < c.need ∧ c.list = []

/-- The relations of R3 between the counts of an item: an assigned or withdrawn copy is one of its copies, a delivered or undeliverable
one is assigned or withdrawn. -/
abbrev Item.obeysR3 (i : Item) : Prop :=
  i.assigned + i.withdrawn ≤ i.copies ∧ i.delivered + i.undeliverable ≤ i.assigned + i.withdrawn

/-- Every item of every live order keeps the relations of R3. -/
abbrev State.obeysR3 (s : State) : Prop := ∀ o ∈ s.orders, ∀ i ∈ o.items, i.obeysR3

/-- The base of the exchange region is a multiple of 64 KiB (R169). -/
abbrev State.baseAligned (s : State) : Prop := s.exchBase % 65536 = 0

/-! ## When a command's step is made at once -/

/-- No request is in course, and the part may master the bus (R192). -/
abbrev State.quiet (s : State) : Prop := s.agenda = [] ∧ s.exch.busMaster = true

/-- As `quiet`, with no producer waiting and `places` places free in the pending outcome queue (R178). -/
abbrev State.calm (places : Nat) (s : State) : Prop :=
  s.quiet ∧ s.waiting = [] ∧ s.occupied + places ≤ Config.outcomePlaces

/-- The part takes the ticket: it was handed on before, or the part is in RUNNING, where alone tickets are taken, and the ticket's slot holds no in-flight
mark (R68, R155, R168, R173, R176, R177, R186, R187). -/
abbrev State.takes (s : State) (t : Ticket) : Prop := s.handedOn t = true ∨ (s.exch.part = .running ∧ t.slot ∉ s.exch.inFlight)

/-- The part takes a ticket whose kind requires no order, and which names none, or a live one (R1, R173). -/
abbrev State.admits (s : State) (t : Ticket) : Prop := s.takes t ∧ (t.order = 0 ∨ (s.findOrder t.order).isSome = true)

/-- The ticket a command brings, with its kind (12.4), where R1 has an order that is not live end it NO_ORDER before its kind's own step: every ticket
but ORDER_OPEN, which makes its record (R7), and CARD_READ, whose slot is checked before its order (R56). -/
def orderTicket (c : Instr) : Option (Ticket × Nat) :=
  match c with
  | .orderAddItems t _ => some (t, 2)
  | .orderQuote t => some (t, 3)
  | .orderCancel t => some (t, 4)
  | .orderDropItem t _ => some (t, 5)
  | .orderResolve t _ _ _ => some (t, 6)
  | .payCard t => some (t, 7)
  | .payCashBind t => some (t, 8)
  | .payCashUnbind t => some (t, 9)
  | .loadPrices t _ => some (t, 11)
  | .loadTone t _ _ _ => some (t, 12)
  | .engineControlEvacuate t _ | .engineControlPause t _ | .engineControlResume t _ | .engineControlReset t _ => some (t, 13)
  | .mediaSet t _ _ _ _ => some (t, 14)
  | .engineProof t _ _ _ _ _ _ _ => some (t, 15)
  | .refreshSettings t => some (t, 16)
  | .readCounters t => some (t, 17)
  | .linkTestLoopOn t _ | .linkTestLoopOff t | .linkTestSend t _ | .linkTestInsertError t => some (t, 18)
  | _ => none

/-- The ticket a command brings. -/
def commandTicket (c : Instr) : Option Ticket :=
  match c with
  | .orderOpen t _ _ _ _ | .cardRead t _ _ _ => some t
  | c => (orderTicket c).map Prod.fst

/-- A request of the waiting line, behind those ahead of it, is held back: one of those comes before it at an owner (R5, R72), or its step needs a
place (R178). -/
abbrev State.heldBack (s : State) (ahead : List Job) (k : Job) (behind : List Job) : Prop :=
  (∃ i ∈ ahead, sharesOwner (ownersOf i.act s) (ownersOf k.act s) = true)
    ∨ s.occupied < (State.attempt k { s with waiting := ahead ++ behind }).occupied

/-- The last burst of the request at the head of a client's list is under way: the mover's grant with its request (R189, R190). -/
abbrev State.lastBurst (s : State) (g : Grant) (r : Request) : Prop :=
  s.mover.grant = some g ∧ s.mover.headOf g.place = some r ∧ r.length ≤ r.moved + g.length

/-- A part that stops counts as stopped. -/
def PartState.resting : PartState → PartState
  | .stopping => .stopped
  | p => p

/-- A state with the exchange controller's own course set aside: which outcome the log writer and which ending the ticket writer have taken
up, whether a part that stops has stopped, and what the memory mover is doing. All the rest stands. Two states with one `still` agree on every
record, register, table, queue, counter and pin of the other blocks, on the pending outcome queue, on the completion list and on the settings. -/
def State.still (s : State) : State :=
  { s with
    mover := {}
    waiting := []
    agenda := []
    exch := { s.exch with part := s.exch.part.resting, writer := .idle, logWriter := .idle, reservedPlaces := 0 } }

end Sys2Proof.Machine
end

