-- ==== Sys2Proof/Certificates/Slice0/Obligations.lean ====
section
/-! DEFINITION. The statements about the model that are to be proved. Each says for every state that meets its hypotheses what a command's
effect is and that nothing else of the part changes: the next state `u` agrees with the state the rules give on all but the exchange
controller's own course (State.still of Safety.lean), and the mover holds the requests the command has made behind those it held. The
model's own choices in them: a ticket command stands for the take as well (`accept`, log entry 3), a result detail is 0 where its rule names no
number (log entry 2), and an outcome's order and sequence are 0 where its rule names none (log entry 11); a docstring names the others. -/

open Sys2Proof Sys2Proof.Machine

/-! ## The step and the register window -/

/-- A step takes the command at the front of the queue and has its effect on the state with the queue's rest. The queue of commands is the model's
own (log entries 1 and 6). -/
def Obligations.StepRunsFrontCommand : Prop :=
  ∀ (c : Instr) (rest : List Instr) (s : State), s.pending = c :: rest → step s = exec c { s with pending := rest }

/-- RUN and STOP (R184, R185, R186): RUN from RESET or STOPPED enters STARTING and asks for the setup block of 1,024 bytes at the base of the
region; elsewhere it changes nothing. STOP in RUNNING, here with no read at any slot, enters STOPPING, and STOPPED at once exactly when every block
is quiet as R186 lists them (State.allQuiet); in STARTING it is remembered; elsewhere it changes nothing. That a print whose start waits for room
counts as one under way is the model's (log entry 52). -/
def Obligations.ControlRunAndStop : Prop :=
  (∀ s : State, s.quiet → s.exch.part = .reset ∨ s.exch.part = .stopped →
    ∃ u, exec .run s = .next u
      ∧ u.still = (s.modExch fun x => { x with part := .starting, fromStopped := x.part == .stopped, setupReading := some .run }).still
      ∧ s.mover.requests ++ [{ tag := .setup, address := s.exchBase, length := 1024 }] <+: u.mover.requests)
  ∧ (∀ s : State, s.quiet → s.exch.part ≠ .reset → s.exch.part ≠ .stopped → ∃ u, exec .run s = .next u ∧ u.still = s.still)
  ∧ (∀ s : State, s.quiet → s.exch.part = .running → (∀ n, (s.slots.get n).queue = []) →
    let v := s.modExch fun x => { x with part := .stopping }
    ∃ u, exec .stop s = .next u ∧ u.exch.part = (if v.allQuiet then .stopped else .stopping) ∧ u.still = v.still)
  ∧ (∀ s : State, s.quiet → s.exch.part = .starting →
    ∃ u, exec .stop s = .next u ∧ u.still = (s.modExch fun x => { x with stopRemembered := true }).still)
  ∧ (∀ s : State, s.quiet → s.exch.part ≠ .running → s.exch.part ≠ .starting → ∃ u, exec .stop s = .next u ∧ u.still = s.still)

/-- The resets (R188, R169): every block takes its reset value. Power-on reset sets EXCH_BASE to 0, the other two keep it. The model keeps the
commands that wait and the levels of the input pins at all three, and the bus master enable at a soft and a link reset (log entry 9). -/
def Obligations.Resets : Prop :=
  ∀ s : State,
    let inputs : State :=
      { State.reset with
        pending := s.pending
        slots := ⟨{ detect := s.slots.zero.detect }, { detect := s.slots.one.detect }, { detect := s.slots.two.detect },
                  { detect := s.slots.three.detect }⟩
        cash := { lineHigh := s.cash.lineHigh } }
    let kept : State :=
      { inputs with exch := { baseLow := s.exch.baseLow, baseHigh := s.exch.baseHigh, busMaster := s.exch.busMaster } }
    exec .powerOnReset s = .next inputs ∧ exec .softReset s = .next kept ∧ exec .linkReset s = .next kept

/-- The two triggers of a scan in RUNNING (R176, R177): with no scan under way, and no log writer waiting, one starts at once, and the scan timer
starts again when its interval is above 0; during a scan the trigger sets rescan owed. That the scan begins with one request for the 32 bytes of
the header of slot 0 is the model's (log entry 15). A log writer that waits for room, and the other part states, are left out. -/
def Obligations.ScanTriggers : Prop :=
  ∀ (c : Instr) (s : State), s.quiet → s.exch.part = .running →
    ((∃ v, c = .nudge v) ∨ (c = .scanTimerExpiry ∧ ∃ t, s.exch.scanTimer = some t ∧ s.exch.settings.scanInterval ≠ 0
      ∧ reached s.clock (t + s.exch.settings.scanInterval) = true)) →
    (s.exch.scan = .idle → s.exch.logWriter ≠ .waiting →
      ∃ u, exec c s = .next u
        ∧ u.still = (s.modExch fun x =>
            { x with
              scanTimer := if x.settings.scanInterval = 0 then none else some s.clock
              scan := .headers 0 [] }).still
        ∧ s.mover.requests ++ [{ tag := .header 0, address := s.exchBase + 1024, length := 32 }] <+: u.mover.requests)
    ∧ (s.exch.scan ≠ .idle →
      ∃ u, exec c s = .next u ∧ u.still = (s.modExch fun x => { x with rescanOwed := true }).still)

/-- Writes to ATTN_CAUSE and ATTN_ENABLE (R182, R183). A 1 clears its cause, a 0 leaves it, and clearing never signals the vector; a write to the
enables signals it exactly when it makes an inactive line active. Nothing else changes. -/
def Obligations.AttentionWrites : Prop :=
  ∀ (v : Word32) (s : State),
    exec (.attnCauseWrite v) s = .next (s.modExch fun x => { x with attnCause := x.attnCause &&& ~~~(v.setWidth 7) })
    ∧ exec (.attnEnableWrite v) s = .next (s.modExch fun x =>
        { x with
          attnEnable := v.setWidth 7
          vectorSignals := x.vectorSignals +
            if x.attnCause &&& x.attnEnable = 0#7 ∧ x.attnCause &&& v.setWidth 7 ≠ 0#7 then 1 else 0 })

/-- Writes to EXCH_BASE (R169) and the writes without effect (R170): each half is written in RESET alone, the low 16 bits of the low half never; a
write to IDENT or STATE, or to CONTROL with none of the action codes, changes nothing. -/
def Obligations.BaseAndIdleWrites : Prop :=
  ∀ (v : Word32) (s : State),
    (s.exch.part = .reset →
      exec (.exchBaseLowWrite v) s = .next (s.modExch fun x => { x with baseLow := v &&& 0xFFFF0000#32 })
      ∧ exec (.exchBaseHighWrite v) s = .next (s.modExch fun x => { x with baseHigh := v }))
    ∧ (s.exch.part ≠ .reset → exec (.exchBaseLowWrite v) s = .next s ∧ exec (.exchBaseHighWrite v) s = .next s)
    ∧ ∀ offset, exec (.registerWriteNoEffect offset v) s = .next s

/-! ## The exchange controller and the memory mover -/

/-- The linger has passed since the first unannounced record (R181): the LOG cause is set and the unannounced count goes to 0. -/
def Obligations.LogLingerAnnounces : Prop :=
  ∀ s : State, s.quiet → 0 < s.exch.unannounced →
    reached s.clock (s.exch.firstUnannounced + s.exch.settings.linger) = true →
    ∃ u, exec .logLingerExpiry s = .next u ∧ u.still = ((s.modExch fun x => { x with unannounced := 0 }).attend .log).still

/-- The live settings read for a REFRESH_SETTINGS are applied (R172), here with the scan interval, the notify threshold and the linger as they
were: SETTINGS is queued with the ticket's sequence, and the ticket ends OK with the number of clamped fields, and bit 31 when any was clamped. That
SETTINGS carries order 0 is the model's (log entry 11). -/
def Obligations.RefreshApplied : Prop :=
  ∀ (t : Ticket) (b : Bool) (x : Settings) (l : List Nat) (s : State), s.calm 1 →
    s.exch.setupReady = some { cause := .refresh t, bothClasses := b, settings := x, clamped := l } → s.exch.refreshes = [] →
    x.scanInterval = s.exch.settings.scanInterval → x.notify = s.exch.settings.notify → x.linger = s.exch.settings.linger →
    ∃ u, exec .settingsApplied s = .next u
      ∧ u.still = (((s.modExch fun y => { y with settings := x, setupReady := none }).emit (.settings true true l) 0 0 t.seq).endTicket
          t 16 .ok (l.length + if 0 < l.length then 2147483648 else 0)).still

/-- The first RUNNING after a reset (R185, R171, R47, R96, R116, R138, R157, R198): both classes of settings are applied with SETTINGS, the
detectors, the watching, the listening, the sampling and, under AUTO, the report timer begin, the renderers and the acceptor hold the settings
read, the log position is 0, and a scan begins, here with no STOP remembered. That the scan begins with one request for the 32 bytes of the header
of slot 0 is the model's (log entry 15). -/
def Obligations.FirstRunning : Prop :=
  ∀ (x : Settings) (l : List Nat) (s : State), s.calm 1 → s.exch.part = .starting →
    s.exch.setupReady = some { cause := .run, bothClasses := true, settings := x, clamped := l } →
    s.exch.stopRemembered = false → s.exch.refreshes = [] → s.exch.unannounced = 0 → s.exch.logWriter = .idle → s.exch.scan = .idle →
    (∀ e, (s.ports.get e).state = .offline ∧ (s.ports.get e).offered = false) →
    ∃ u, exec .settingsApplied s = .next u
      ∧ u.still =
        ({ s with
          exch := { s.exch with
            settings := x, setupReady := none, part := .running, ranOnce := true, logPos := 0, stopRemembered := false
            scanTimer := if x.scanInterval = 0 then none else some s.clock
            scan := .headers 0 []
            outcomes := s.exch.outcomes ++ [{ payload := .settings false false l, time := s.clock }] }
          ports := ⟨{ s.ports.zero with watching := true, heardAt := s.clock }, { s.ports.one with watching := true, heardAt := s.clock }⟩
          renderers := ⟨{ s.renderers.zero with latched := x.render.zero }, { s.renderers.one with latched := x.render.one }⟩
          tender := { s.tender with listening := true }
          cash := { s.cash with sampling := true, pulseValue := x.pulseValue }
          counters := { s.counters with timer := if x.report = .manual then none else some s.clock } } : State).still
      ∧ s.mover.requests ++ [{ tag := .header 0, address := s.exchBase + 1024, length := 32 }] <+: u.mover.requests

/-- The waiting producers (R178, R5, R72): the oldest one's step is made when its outcomes find their places. While they do not, it keeps its place in
the line, and the first request behind it that is held back by nothing is made: one that shares no record or block with those ahead of it and needs
no place. When there is none, nothing is made. That the producers of all blocks stand in one line, and that such a request is made ahead of the
oldest, are the model's (log entry 44). -/
def Obligations.OldestProducerServed : Prop :=
  ∀ (j : Job) (rest : List Job) (s : State), s.waiting = j :: rest →
    let after := State.attempt j { s with waiting := rest }
    (after.occupied ≤ 16 → exec .waitingProducerStep s = .next after.settle)
    ∧ (16 < after.occupied → s.occupied < after.occupied →
      (s.quiet → (∀ l k r, rest = l ++ k :: r → s.heldBack (j :: l) k r) →
        ∃ u, exec .waitingProducerStep s = .next u ∧ u.still = s.still ∧ j :: rest <+: u.waiting)
      ∧ (∀ l k r, rest = l ++ k :: r → (∀ l₁ i l₂, l = l₁ ++ i :: l₂ → s.heldBack (j :: l₁) i (l₂ ++ k :: r)) →
        ¬ s.heldBack (j :: l) k r →
        exec .waitingProducerStep s = .next (State.attempt k { s with waiting := (j :: l) ++ r }).settle))

/-- A memory error of an exchange client halts the part (R187, R193), with the cause of its client, here with no read at any slot: a request for the
setup block; one for a ticket's header or body, its TAKEN, its result, its DONE or its owner (R174, R175, R177); one for the log's mark, record or
fresh mark (R179). A read burst that has had no data for 50 ms ends in error as one that is reported failed does (R192).
That a reading of the setup block which waits for room is dropped when it is a RUN's, and kept when it is a REFRESH_SETTINGS's, is the model's (log
entry 80). -/
def Obligations.BurstErrorHalts : Prop :=
  ∀ (c : Instr) (g : Grant) (r : Request) (why : HaltCause) (s : State), s.quiet → s.exch.part ≠ .halted →
    s.mover.grant = some g → s.mover.headOf g.place = some r → (∀ n, (s.slots.get n).queue = []) →
    ((r.tag = .setup ∧ why = .setup)
      ∨ ((∃ n, r.tag = .header n ∨ r.tag = .body n ∨ r.tag = .taken n ∨ r.tag = .result n ∨ r.tag = .doneState n ∨ r.tag = .owner n)
        ∧ why = .ticket)
      ∨ ((r.tag = .mark ∨ r.tag = .record ∨ r.tag = .freshMark) ∧ why = .log)) →
    (c = .burstEnd .failed ∨ (c = .burstReadTimeout ∧ g.write = none ∧ reached s.clock (g.issued + 50) = true)) →
    ∃ u, exec c s = .next u ∧ u.exch.part = .halted ∧ u.exch.haltCause = why
      ∧ u.still = ((s.modExch fun x =>
          { x with
            part := .halted, haltCause := why, scan := .idle, rescanOwed := false, scanTimer := none, setupReading := none
            setupReady := x.setupReady.filter fun y => y.cause != .run }).attend .halt).still

/-- What the last burst of an exchange client's request brings. A record is in the log once its fresh mark has been written (R179, R181): the outcome
leaves the pending outcome queue, the write position moves on and goes round at the log size, and the unannounced count rises; here the
notification test sets nothing. A posted ticket whose body has been read is taken (R174, R177): its in-flight mark is set and TAKEN is written; at
the acknowledgement, here with no further candidate and no rescan owed, it is handed on to its block, or ended BAD_KIND when no block owns its kind,
with the last-activity time of a live order it names set (R173, R14), and a CARD_READ with what its slot's checks make of it (R56). A completion (R175): after the result DONE is written, after DONE the owner,
and then the in-flight mark is cleared, and TICKET_DONE is queued in the place set aside. That the mark is set with the writing of TAKEN is the
model's reading (log entry 29), and so is that TICKET_DONE joins the tail with the clock of that moment (log entry 14). The record of a PRINT SPOILED,
a notification test that sets the cause, and the body of a CARD_READ are left out. -/
def Obligations.RecordWritten : Prop :=
  ∀ (d : List Byte) (g : Grant) (r : Request) (s : State), s.quiet → s.exch.part = .running → s.lastBurst g r →
    let slotAt (n : Nat) : Nat := s.exchBase + 1024 + 256 * n
    (∀ (o : OutcomeRecord) (rest : List OutcomeRecord), r.tag = .freshMark → g.write.isSome = true → s.exch.outcomes = o :: rest →
      (∀ i c b f w x a n, o.payload ≠ .printEnd true i c b f w x a n) →
      s.exch.unannounced + 1 < s.exch.settings.threshold →
      reached s.clock ((if s.exch.unannounced = 0 then s.clock else s.exch.firstUnannounced) + s.exch.settings.linger) = false →
      ∃ u, exec (.burstEnd (.done d)) s = .next u
        ∧ u.still = (s.modExch fun x =>
            { x with
              outcomes := rest
              logPos := (x.logPos + 1) % x.settings.logSize
              unannounced := x.unannounced + 1
              firstUnannounced := if x.unannounced = 0 then s.clock else x.firstUnannounced }).still)
    ∧ (∀ (n : Nat) (left : List Header) (fence : List Nat) (h : Header) (b : Option (List Byte)), r.tag = .body n → g.write = none →
      s.exch.scan = .taking left fence (some { header := h, body := b }) → h.kind ≠ 10 → n ∉ s.exch.inFlight →
      ∃ u, exec (.burstEnd (.done d)) s = .next u
        ∧ u.still = (s.modExch fun x =>
            { x with
              scan := .taking left fence (some { header := h, body := some (r.got ++ fit g.length d) })
              inFlight := n :: x.inFlight }).still
        ∧ { tag := .taken n, address := slotAt n + 1, length := 1, write := some [2#8] } ∈ u.mover.requests)
    ∧ (∀ (n : Nat) (fence : List Nat) (h : Header) (b : List Byte), r.tag = .taken n →
      s.exch.scan = .taking [] fence (some { header := h, body := some b }) → s.exch.rescanOwed = false →
      let v := (if h.kind = 1 then s else s.modOrder h.order fun o => { o with lastActivity := s.clock }).modExch fun x => { x with scan := .idle }
      ∃ u, exec (.burstEnd (.done d)) s = .next u
        ∧ u.still =
          (if 1 ≤ h.kind ∧ h.kind ≤ 18 then v.modExch fun x =>
            { x with handed := x.handed ++ [{ header := h, body := b, takenAt := s.clock, read := s.checkAtTake h b }] }
          else v.endTicket { slot := h.slot, seq := h.seq, order := h.order } h.kind .badKind 0).still)
    ∧ (∀ n : Nat, r.tag = .result n →
      ∃ u, exec (.burstEnd (.done d)) s = .next u ∧ u.still = s.still
        ∧ { tag := .doneState n, address := slotAt n + 1, length := 1, write := some [3#8] } ∈ u.mover.requests)
    ∧ (∀ n : Nat, r.tag = .doneState n →
      ∃ u, exec (.burstEnd (.done d)) s = .next u ∧ u.still = s.still
        ∧ { tag := .owner n, address := slotAt n, length := 1, write := some [0#8] } ∈ u.mover.requests)
    ∧ (∀ (n : Nat) (c : Ending) (rest : List Ending), r.tag = .owner n → s.exch.completions = c :: rest → s.exch.reservedPlaces ≠ 0 →
      ∃ u, exec (.burstEnd (.done d)) s = .next u
        ∧ u.still =
          ((s.modExch fun x =>
            { x with completions := rest, inFlight := x.inFlight.filter (· != c.ticket.slot) }).emit
            (.ticketDone c.ticket.slot c.kind c.code c.detail) 0 c.ticket.order c.ticket.seq).still)

/-! ## Orders, quotes and settlement -/

/-- ORDER_OPEN with every field in range, a number that no live order carries and a free record (R7): the record takes its values, ORDER STATE is
queued and the ticket ends OK. -/
def Obligations.OrderOpened : Prop :=
  ∀ (t : Ticket) (station cls profile finish : Nat) (s : State), s.calm 1 → s.takes t → station ≤ 3 → cls ≤ 1 →
    profile ≤ 3 → finish ≤ 1 → t.order ≠ 0 → s.findOrder t.order = none → s.orders.length < 16 →
    ∃ u, exec (.orderOpen t station cls profile finish) s = .next u
      ∧ u.still =
        ((({ s.acceptOpen t with
            orders := s.orders ++
              [{ number := t.order, station := station, cls := if cls = 0 then .standard else .express, profile := profile
                 finish := if finish = 0 then .glossy else .matte, lastActivity := s.takeTime t }] } : State).emit
          (.orderState false none .opened .ticket) 0 t.order t.seq).endTicket t 1 .ok 0).still

/-- A ticket that names an order number no live record carries ends NO_ORDER and changes nothing else (R1; R153 for PAY_CARD): every ticket for an
order or for its payment, and every other ticket but ORDER_OPEN and CARD_READ when the number is not 0 (R173), here with the ticket one that is
taken, and with the acceptor's waiting list empty for PAY_CASH_BIND. The detail is 0, and the check comes before those of the ticket's kind (log
entries 2 and 48). Tickets are taken in RUNNING alone (R68, R155, R168, R176, R186, R187) and never while their slot's in-flight mark is set (R173):
elsewhere the command of one that was not handed on before changes nothing (log entry 3). -/
def Obligations.NoLiveOrderRefused : Prop :=
  (∀ (t : Ticket) (c : Instr) (kind : Nat) (s : State), s.calm 0 → s.takes t → orderTicket c = some (t, kind) →
    s.findOrder t.order = none → (9 < kind → t.order ≠ 0) → (kind = 8 → s.cash.list = []) →
    ∃ u, exec c s = .next u ∧ u.still = ((s.accept t).endTicket t kind .noOrder 0).still)
  ∧ (∀ (t : Ticket) (c : Instr) (s : State), commandTicket c = some t → ¬ s.takes t → exec c s = .next s)

/-- ORDER_ADD_ITEMS for an OPEN order with one to eight sound descriptions (R8): an item for each is appended, with at most 99 copies, and the
ticket ends OK with the number of items the order now holds, and bit 31 when a number of copies was clamped. -/
def Obligations.ItemsAdded : Prop :=
  ∀ (t : Ticket) (items : List ItemDesc) (o : Order) (s : State), s.calm 0 → s.takes t → s.findOrder t.order = some o →
    o.state = .opened → items ≠ [] → items.length ≤ 8 → o.items.length + items.length ≤ 24 →
    (∀ d ∈ items, d.product ≤ 31 ∧ d.copies ≠ 0 ∧ d.preStaged ≤ 1 ∧ d.address + 9216000 ≤ 18446744073709551616) →
    ∃ u, exec (.orderAddItems t items) s = .next u
      ∧ u.still =
        (((s.accept t).modOrder t.order fun o =>
          { o with items := o.items ++ items.map fun d =>
              { product := d.product, address := d.address, copies := min d.copies 99
                staging := if d.preStaged = 1 then .staged else .unstaged } }).endTicket t 2 .ok
          (o.items.length + items.length + if items.any fun d => decide (99 < d.copies) then 2147483648 else 0)).still

/-- ORDER_QUOTE whose quote is above 0 (R9, R29): the figures are stored, the order's products are in use once more, the order goes to QUOTED, and
the ticket ends OK with the quote. QuoteFigures says what the figures are. -/
def Obligations.OrderQuoted : Prop :=
  ∀ (t : Ticket) (o : Order) (us : List Nat) (subtotal rate quote : Nat) (s : State), s.calm 1 → s.takes t →
    s.findOrder t.order = some o → o.state = .opened → o.items ≠ [] →
    quoteOf s.products s.exch.settings.taxRate o.items = .priced us subtotal rate quote → quote ≠ 0 →
    ∃ u, exec (.orderQuote t) s = .next u
      ∧ u.still =
        (((({ s.accept t with useCounts := raiseUses s.useCounts o.productsUsed } : State).modOrder t.order fun o =>
          { o with
            items := priceItems o.items us, subtotal := some subtotal, taxRate := some rate, quote := some quote
            state := .quoted, lastActivity := s.clock, awaitingEngine := false }).dropAwaiting t.order).emit
          (.orderState false (some .opened) .quoted .ticket) 0 t.order t.seq |>.endTicket t 3 .ok quote).still

/-- The figures of a quote (R33, R34, R35): with every product valid, each item's unit price is that of the highest tier whose minimum the order's
whole quantity of the product reaches; the subtotal is the sum of copies times unit price; the quote adds the tax, rounded to the nearest cent. It
is refused NO_PRICE at the lowest item whose product is not valid, and TOO_LARGE above 1,000,000 cents. ORDER_QUOTE for an OPEN order with items
takes the live tax rate: a refused quote ends the ticket with its code and detail and changes nothing else; an answered one is stored with its figures
and raises the use counts of the order's products (R9, R29). The two clauses about ORDER_QUOTE keep to a part with room that holds no request up, and
the second to a quote above 0; that the command stands for the ticket's take as well (`takes`, `accept`) is the model's choice (log entry 3). -/
def Obligations.QuoteFigures : Prop :=
  (∀ (products : List Product) (rate : Nat) (items : List Item),
    (∀ k, (∃ i, items[k]? = some i ∧ (products.getD i.product {}).valid = false) →
      (∀ j < k, ∀ i, items[j]? = some i → (products.getD i.product {}).valid = true) →
      quoteOf products rate items = .refused .noPrice k)
    ∧ ((∀ i ∈ items, (products.getD i.product {}).valid = true) →
      let price (i : Item) : Nat :=
        let p := products.getD i.product {}
        let q := ((items.filter fun x => x.product == i.product).map Item.copies).sum
        if p.min3 ≤ q then p.price3 else if p.min2 ≤ q then p.price2 else p.price1
      let subtotal := (items.map fun i => i.copies * price i).sum
      let quote := subtotal + (subtotal * rate + 5000) / 10000
      quoteOf products rate items =
        if 1000000 < subtotal then .refused .tooLarge (min subtotal 536870911)
        else if 1000000 < quote then .refused .tooLarge quote
        else .priced (items.map price) subtotal rate quote))
  ∧ (∀ (t : Ticket) (o : Order) (s : State), s.calm 1 → s.takes t → s.findOrder t.order = some o → o.state = .opened → o.items ≠ [] →
    (∀ code k, quoteOf s.products s.exch.settings.taxRate o.items = .refused code k →
      ∃ u, exec (.orderQuote t) s = .next u ∧ u.still = ((s.accept t).endTicket t 3 code k).still)
    ∧ (∀ us subtotal rate quote, quoteOf s.products s.exch.settings.taxRate o.items = .priced us subtotal rate quote → quote ≠ 0 →
      ∃ u, exec (.orderQuote t) s = .next u ∧ rate = s.exch.settings.taxRate ∧ u.useCounts = raiseUses s.useCounts o.productsUsed
        ∧ (u.findOrder t.order).map (fun w => (w.items.map Item.unitPrice, w.subtotal, w.taxRate, w.quote))
          = some (us.map some, some subtotal, some rate, some quote)))

/-- The figures of a settlement. The charge is the delivered subtotal with its tax, at most the quote of an order that delivered no more than its copies,
and 0 for one that delivered nothing (R40). Cash applied is the smaller of the cash credited and the charge, the card part the rest of the charge, the
capture the smaller of the card part and the held amount, the shortfall what is left of the card part, and the surplus what is left of the cash; each
is within the bounds the rule gives. The order table writes charge, surplus and shortfall, and with a held amount records and hands on a CAPTURE
request for the capture figure, with the hold reference, the card part kept, or a RELEASE request where that figure is 0; without one it goes on to
the close (R41). -/
def Obligations.SettlementFigures : Prop :=
  (∀ o : Order,
    let delivered := (o.items.map fun i => i.delivered * i.unitPrice.getD 0).sum
    let quoted := (o.items.map fun i => i.copies * i.unitPrice.getD 0).sum
    let taxed (subtotal : Nat) : Nat := subtotal + (subtotal * o.taxRate.getD 0 + 5000) / 10000
    let held := o.held.getD 0
    let f := settlementOf o
    f.charge = taxed delivered
    ∧ ((∀ i ∈ o.items, i.delivered ≤ i.copies) → delivered ≤ quoted ∧ f.charge ≤ taxed quoted)
    ∧ ((∀ i ∈ o.items, i.delivered = 0) → f.charge = 0)
    ∧ f.cashApplied = min o.cash f.charge ∧ f.cardPart = f.charge - f.cashApplied ∧ f.capture = min f.cardPart held
    ∧ f.shortfall = f.cardPart - f.capture ∧ f.surplus = o.cash - f.cashApplied
    ∧ f.cashApplied + f.cardPart = f.charge ∧ f.cashApplied + f.surplus = o.cash ∧ f.capture + f.shortfall = f.cardPart
    ∧ f.cashApplied ≤ f.charge ∧ f.cardPart ≤ f.charge ∧ f.capture ≤ f.charge ∧ f.shortfall ≤ f.charge ∧ f.surplus ≤ o.cash
    ∧ f.capture ≤ held ∧ (0 < f.surplus → f.cardPart = 0) ∧ (0 < f.shortfall → f.capture = held)
    ∧ (0 < f.surplus ↔ f.charge < o.cash) ∧ (0 < f.shortfall ↔ o.cash + held < f.charge))
  ∧ ∀ (n seq : Nat) (o w : Order) (s : State), s.findOrder n = some w →
    let f := settlementOf o
    let asked (r : OrderRequest) : State :=
      (s.modOrder n fun x =>
        { x with charge := some f.charge, surplus := some f.surplus, shortfall := some f.shortfall, request := some r }).push
        (.handTender { kind := r.kind, order := n, amount := r.amount, reference := w.holdRef.getD 0 })
    s.chooseCourse n seq o =
      if o.held.isSome then
        if 0 < f.capture then asked { kind := .capture, amount := f.capture, cardPart := f.cardPart }
        else asked { kind := .release, amount := 0 }
      else (s.modOrder n fun x =>
        { x with charge := some f.charge, surplus := some f.surplus, shortfall := some f.shortfall, captured := some 0 }).push
        (.closeOrder n seq)

/-- A cancel of an OPEN or QUOTED order, and the abandon expiry of a QUOTED one, with no cash credited or bound and no read of the order at any
slot (R14, R19, R20, R23): ORDER CLOSED is queued and the record is free at once; a quoted order's products are in use once less (R29). -/
def Obligations.UnpaidOrderClosed : Prop :=
  ∀ (n : Nat) (o : Order) (s : State), s.calm 1 → s.findOrder n = some o → o.cash = 0 → o.cashBound = false →
    (∀ k, ∀ r ∈ (s.slots.get k).queue, r.order ≠ n) →
    let freed (v : State) : State :=
      { v with
        orders := s.orders.filter fun x => x.number != n
        useCounts := if o.quote.isSome then lowerUses s.useCounts o.productsUsed else s.useCounts
        awaiting := s.awaiting.filter (· != n) }
    let closed (reason : CloseReason) : Payload :=
      .orderClosed reason (o.charge.getD 0) (o.captured.getD 0) (o.surplus.getD 0) (o.shortfall.getD 0) (o.items.map Item.spoiled).sum
    (∀ t : Ticket, s.takes t → t.order = n → o.state = .opened ∨ o.state = .quoted →
      ∃ u, exec (.orderCancel t) s = .next u
        ∧ u.still = (((freed (s.accept t)).emit (closed .cancelled) 0 n t.seq).endTicket t 4 .ok 0).still)
    ∧ (o.state = .quoted → s.exch.settings.abandon ≠ 0 → reached s.clock (o.lastActivity + 1000 * s.exch.settings.abandon) = true →
      ∃ u, exec (.abandonExpiry n) s = .next u ∧ u.still = ((freed s).emit (closed .abandoned) 0 n 0).still)

/-- ORDER_DROP_ITEM for an order that is QUOTED, FUNDING or UNRESOLVED (R18): the item's open copies are withdrawn and undeliverable, and the
ticket ends OK with their number. -/
def Obligations.ItemDropped : Prop :=
  ∀ (t : Ticket) (item : Nat) (o : Order) (i : Item) (s : State), s.calm 0 → s.takes t → s.findOrder t.order = some o →
    o.state = .quoted ∨ o.state = .funding ∨ o.state = .unresolved → o.items[item]? = some i →
    ∃ u, exec (.orderDropItem t item) s = .next u
      ∧ u.still =
        (((s.accept t).modOrder t.order fun o => o.modItem item fun i =>
          let gone := i.copies - i.assigned - i.withdrawn
          { i with withdrawn := i.withdrawn + gone, undeliverable := i.undeliverable + gone }).endTicket t 5 .ok
          (i.copies - i.assigned - i.withdrawn)).still

/-- ORDER_RESOLVE with CAPTURE_DONE for an order whose CAPTURE is unresolved (R26, R23): captured and the shortfall are written, the ticket ends
OK, ORDER CLOSED is queued, and the record is free. The request's sequence leaves the reserved list when it was reserved, which that of a REFUSED
CAPTURE was not (R150). -/
def Obligations.CaptureResolved : Prop :=
  ∀ (t : Ticket) (reference amount : Nat) (o : Order) (r : UnresolvedRequest) (s : State), s.calm 1 → s.takes t →
    s.findOrder t.order = some o → o.state = .unresolved → o.unresolved = some r → r.kind = .capture → amount ≤ r.amount →
    ∃ u, exec (.orderResolve t 3 reference amount) s = .next u
      ∧ u.still =
        ((({ s.accept t with
            orders := s.orders.filter fun x => x.number != t.order
            useCounts := if o.quote.isSome then lowerUses s.useCounts o.productsUsed else s.useCounts
            awaiting := s.awaiting.filter (· != t.order)
            tender := { s.tender with
              reservedSeqs := if r.reserved then s.tender.reservedSeqs.filter (· != r.seq) else s.tender.reservedSeqs } } : State).orphanReads
          t.order).endTicket
          t 6 .ok 0 |>.emit (.orderClosed o.closeReason (o.charge.getD 0) amount (o.surplus.getD 0) (r.cardPart - amount)
            (o.items.map Item.spoiled).sum) 0 t.order t.seq).still

/-- LOAD_PRICES (R31, R32): an image that would run past the address space refuses the ticket; else its 768 bytes are asked for, here as the first of
its list. When they have been read, here for the only ticket of the list, an image that passes the checks replaces the product table in one step,
and the ticket ends OK with the number of valid products; one that does not leaves the table, and the ticket ends with the code and detail of the
check it fails. -/
def Obligations.PricesAsked : Prop :=
  (∀ (t : Ticket) (address : Nat) (s : State), s.quiet → s.admits t →
    (18446744073709551616 < address + 768 →
      ∃ u, exec (.loadPrices t address) s = .next u ∧ u.still = ((s.accept t).endTicket t 11 .badField 32).still)
    ∧ (address + 768 ≤ 18446744073709551616 → s.priceLoads = [] →
      ∃ u, exec (.loadPrices t address) s = .next u
        ∧ u.still = ({ s.accept t with priceLoads := [{ ticket := t, address := address }] } : State).still
        ∧ s.mover.requests ++ [{ tag := .prices, address := address, length := 768 }] <+: u.mover.requests))
  ∧ (∀ (d : List Byte) (g : Grant) (r : Request) (p : PriceLoad) (s : State), s.quiet → s.lastBurst g r → r.tag = .prices → g.write = none →
    s.priceLoads = [p] →
    let image := r.got ++ fit g.length d
    ∃ u, exec (.burstEnd (.done d)) s = .next u
      ∧ u.still =
        (match imageRefusal s.products s.useCounts image 32 0 with
        | none =>
          ({ s with products := imageProducts image, priceLoads := [] } : State).endTicket p.ticket 11 .ok
            ((imageProducts image).filter Product.valid).length
        | some (code, k) => ({ s with priceLoads := [] } : State).endTicket p.ticket 11 code k).still)

/-! ## Card intake -/

/-- A card's presence (R47 to R49, R53, R54). An INSERTION at an EMPTY slot powers it and begins the settle time, with CARD and the CARD cause. A
REMOVAL at a READY slot with no read empties it and takes its power off, with CARD, and the cause under the edge select BOTH. The figures of the
outcomes are the model's (log entry 19), and so is that the two commands set the level of the card-detect line (log entry 35). A REMOVAL in the
other slot states is left out. -/
def Obligations.CardPresence : Prop :=
  ∀ (n : Fin 4) (s : State), s.calm 1 → s.exch.ranOnce = true → (s.slots.get n).waiting = none →
    ((s.slots.get n).declared = false → (s.slots.get n).state = .empty →
      ∃ u, exec (.cardInsertion n) s = .next u
        ∧ u.still =
          (((s.modSlot n fun x =>
            { x with declared := true, presentRun := 0, absentRun := 0, detect := true, state := .settled, power := true
                     since := s.clock }).emit
            (.card .inserted .empty .settled (s.slots.get n).capacity (s.slots.get n).attempts (s.slots.get n).queue.length none)
            n.val 0 0).attend .card).still)
    ∧ ((s.slots.get n).declared = true → (s.slots.get n).state = .ready → (s.slots.get n).queue = [] → (s.slots.get n).writing = false →
      ∃ u, exec (.cardRemoval n) s = .next u
        ∧ u.still =
          (((s.modSlot n fun x =>
            { x with declared := false, presentRun := 0, absentRun := 0, detect := false, state := .empty, power := false, capacity := 0
                     attempts := 0, pos := none, request := none }).emit
            (.card .removed .ready .empty 0 0 0 none) n.val 0 0).attendIf s.exch.settings.cardBoth .card).still)

/-- The timers of a slot. At the end of the settle time the slot moves to IDENTIFYING with CARD, and the first identify request goes out (R49,
R51); an attempt that has had no answer for 100 ms, but for the third, brings the next (R51); a block attempt that has had no answer for 50 ms,
but for the fourth, counts as a check error and is made again with the attempt number raised (R59, R60, R70). The figures of the outcome are the
model's (log entry 19). -/
def Obligations.CardTimers : Prop :=
  ∀ (n : Fin 4) (s : State),
    (s.calm 1 → (s.slots.get n).state = .settled → (s.slots.get n).waiting ≠ some .removal →
      reached s.clock ((s.slots.get n).since + 20) = true →
      ∃ u, exec (.cardSettleEnd n) s = .next u
        ∧ u.still =
          ((s.modSlot n fun x =>
            { x with state := .identifying, attempts := x.attempts + 1, request := some .identify, since := s.clock }).emit
            (.card .settled .settled .identifying (s.slots.get n).capacity (s.slots.get n).attempts (s.slots.get n).queue.length none)
            n.val 0 0).still)
    ∧ (s.calm 0 → (s.slots.get n).state = .identifying → (s.slots.get n).request = some .identify → (s.slots.get n).attempts < 3 →
      reached s.clock ((s.slots.get n).since + 100) = true →
      ∃ u, exec (.identifyTimeout n) s = .next u
        ∧ u.still = (s.modSlot n fun x => { x with attempts := x.attempts + 1, since := s.clock }).still)
    ∧ (∀ (r : ReadEntry) (q : List ReadEntry) (p : ReadPos) (e : Extent) (b : Nat), s.calm 0 → (s.slots.get n).state = .reading →
      (s.slots.get n).queue = r :: q → (s.slots.get n).pos = some p → r.extents[p.extent]? = some e → p.attempt < 4 →
      (s.slots.get n).request = some (.block b) → reached s.clock ((s.slots.get n).since + 50) = true →
      ∃ u, exec (.blockTimeout n) s = .next u
        ∧ u.still =
          ((s.count (.checkErrors n) 1).modSlot n fun x =>
            { x with pos := some { p with attempt := p.attempt + 1 }, request := some (.block (e.start + p.block))
                     since := s.clock }).still)

/-- An identify answer whose check matches and whose capacity is not 0 (R50, R51, R53), at a slot whose card has not been declared removed: the slot
moves to READY with the capacity, and CARD is queued. The figures of the outcome are the model's (log entry 19). -/
def Obligations.CardIdentified : Prop :=
  ∀ (n : Fin 4) (capacity check : Nat) (s : State), s.calm 1 → (s.slots.get n).state = .identifying →
    (s.slots.get n).request = some .identify → (s.slots.get n).waiting ≠ some .removal → cardCheck (beBytes 4 capacity) = check →
    capacity ≠ 0 →
    ∃ u, exec (.identifyAnswer n capacity check) s = .next u
      ∧ u.still =
        ((s.modSlot n fun x => { x with state := .ready, capacity := capacity, attempts := 0, request := none }).emit
          (.card .identified .identifying .ready capacity (s.slots.get n).attempts (s.slots.get n).queue.length none) n.val 0 0).still

/-- A CARD_READ that names no order, at a READY slot with no read (R56 to R58, R53): the slot moves to READING with CARD, and the first block of
the first extent is asked for. One that was handed on ends as the slot's checks made of it at its take, whatever the slot is now. While the slot's read
queue has no place to give, one that has not been taken is left so (R55). The figures of the outcome, and the places given to reads that are accepted
and not yet entries, are the model's (log entries 19 and 3). -/
def Obligations.CardReadBegins : Prop :=
  (∀ (t : Ticket) (n : Fin 4) (e : Extent) (es : List Extent) (s : State), s.calm 1 → s.exch.part = .running → s.takes t →
    t.order = 0 → s.handedOn t = true ∨ s.readPlaces n < 4 → (∀ h ∈ s.exch.handed, h.header.ticket = t → h.read = some (.passed n)) →
    (s.slots.get n).state = .ready → (s.slots.get n).waiting ≠ some .removal → (s.slots.get n).queue = [] → es.length ≤ 7 →
    (∀ x ∈ e :: es, x.count ≠ 0 ∧ x.start + x.count ≤ (s.slots.get n).capacity
      ∧ x.dest + 512 * x.count ≤ 18446744073709551616) →
    ∃ u, exec (.cardRead t n.val 255 (e :: es)) s = .next u
      ∧ u.still =
        (((s.accept t).modSlot n fun x =>
          { x with
            state := .reading
            queue := [{ ticket := t, order := 0, item := 255, extents := e :: es }]
            pos := some { extent := 0, block := 0, attempt := 1 }
            request := some (.block e.start)
            since := s.clock }).emit
          (.card .readBegin .ready .reading (s.slots.get n).capacity (s.slots.get n).attempts 1 none) n.val 0 0).still)
  ∧ (∀ (slot item : Nat) (es : List Extent) (w : Handed) (rest : List Handed) (code : ResultCode) (detail : Nat) (s : State), s.calm 0 →
    s.exch.handed = w :: rest → w.read = some (.refused code detail) →
    let t := w.header.ticket
    ∃ u, exec (.cardRead t slot item es) s = .next u ∧ u.still = ((s.accept t).endTicket t 10 code detail).still)
  ∧ (∀ (t : Ticket) (n : Fin 4) (item : Nat) (es : List Extent) (s : State), s.handedOn t = false → 4 ≤ s.readPlaces n →
    exec (.cardRead t n.val item es) s = .next s)

/-- A block answer whose check matches (R50, R59): its 512 bytes are handed to the memory mover for the block's place in the extent's
destination. -/
def Obligations.BlockHandedOn : Prop :=
  ∀ (n : Fin 4) (data : List Byte) (r : ReadEntry) (q : List ReadEntry) (p : ReadPos) (e : Extent) (b : Nat) (s : State), s.calm 0 →
    (s.slots.get n).state = .reading → (s.slots.get n).queue = r :: q → (s.slots.get n).pos = some p → r.extents[p.extent]? = some e →
    (s.slots.get n).request = some (.block b) → data.length = 512 →
    ∃ u, exec (.blockAnswer n data (cardCheck data)) s = .next u
      ∧ u.still = (s.modSlot n fun x => { x with request := none, writing := true }).still
      ∧ s.mover.requests ++ [{ tag := .block n, address := e.dest + 512 * p.block, length := 512, write := some data }]
          <+: u.mover.requests

/-! ## Print engines, print scheduling and line rendering -/

/-- EVACUATE and the context stack. ENGINE_CONTROL EVACUATE of an engine that holds one queued run (R94): the run leaves the engine with PRINT
RUN_RETURNED, and the ticket ends OK with 1. The order of an UNRESOLVED run is neither placed again nor put on the awaiting list. A FUNDED or
PRODUCING order, here with no other media kind that needs a run, is placed on the other engine when that one prints with the kind loaded and has room
(R74, R75, R76), the new run at the lowest item of its kind; when neither engine is a candidate it joins the awaiting list with PRINT NO_ENGINE, and
the retry that follows changes nothing (R77). A push whose frame is written queues RUN_PUSHED, or RUN_PARKED for a parked entry, and with no run
queued the top entry is popped again (R86, R80); one whose frame is not leaves a run that still awaits BLOCKED (R86). A frame read at a pop, here
while the part is STOPPING with the engine IDLE (R95), restores its run when it passes the check (R87); else the run is lost, here with its order not
to be placed again (R88). The decision that is to follow is held until the part runs again (R78). The kind, depth and order of RUN_RETURNED, the
loaded kind in RUN_LOST, the unit 0 and depth 0 of NO_ENGINE, and that an UNRESOLVED order is not placed, are the model's (log entry 20), as are the
event of a push (log entry 21), what a frame that passes restores for a code out of range (log entry 74), and the 0 reprints left of a run that is new
or is restored with no reprint to make (log entry 85). -/
def Obligations.RunEvacuated : Prop :=
  (∀ (t : Ticket) (e : Fin 2) (r : Run) (o : Order) (s : State), s.calm 1 → s.admits t → (s.ports.get e).state ≠ .printing →
    (s.sched.get e).access = .none → (s.sched.get e).queue = [r] → (s.sched.get e).stack = [] → s.findOrder r.order = some o →
    s.awaiting = [] →
    let returned := (((s.accept t).modSched e fun x => { x with queue := [] }).emit
      (.printRun .runReturned ((s.ports.get e).media.getD 0) none 1 0 0) e.val 0 t.seq)
    (o.state = .unresolved →
      ∃ u, exec (.engineControlEvacuate t e.val) s = .next u ∧ u.still = (returned.endTicket t 13 .ok 1).still)
    ∧ (∀ d : Fin 2, s.calm 2 → d ≠ e → o.state = .funded ∨ o.state = .producing → r.kind < 4 →
      (∀ k < 4, (s.modSched e fun x => { x with queue := [] }).needsRun o k = decide (k = r.kind)) →
      (∀ (i : Nat) (x : Item), (s.ports.get d).state = .printing → (s.ports.get d).record ≠ none → (s.ports.get d).media = some r.kind →
        (s.sched.get d).queue.length < 8 → o.items[i]? = some x → s.mediaOf x.product = r.kind →
        (∀ j < i, ∀ y, o.items[j]? = some y → s.mediaOf y.product ≠ r.kind) →
        let new : Run :=
          { order := r.order, engine := d, kind := r.kind, cls := o.cls, profile := o.profile, finish := o.finish, item := i, copy := x.assigned }
        ∃ u, exec (.engineControlEvacuate t e.val) s = .next u
          ∧ u.still =
            ((((returned.modSched d fun x =>
              { x with queue :=
                  if o.cls = .express then x.queue.filter (·.cls == .express) ++ new :: x.queue.filter (·.cls != .express)
                  else x.queue ++ [new] }).emit
              (.printRun .runPlaced r.kind none 0 0 (s.sched.get d).stack.length) d.val r.order 0).modOrder r.order fun o =>
              { o with awaitingEngine := false }).endTicket t 13 .ok 1).still)
      ∧ ((∀ k, (s.ports.get k).state = .offline ∨ (s.ports.get k).state = .fault) →
        ∃ u, exec (.engineControlEvacuate t e.val) s = .next u
          ∧ u.still =
            ((((({ returned with awaiting := [r.order] } : State).modOrder r.order fun o => { o with awaitingEngine := true }).emit
              (.printRun .noEngine r.kind none 0 0 0) 0 r.order 0)).endTicket t 13 .ok 1).still)))
  ∧ (∀ (d : List Byte) (e : Fin 2) (g : Grant) (q : Request) (pos : Nat) (a : Run) (why : SavedAs) (l : List DirEntry) (x : DirEntry) (s : State),
    s.calm 1 → s.lastBurst g q → q.tag = .push e → (s.sched.get e).access = .push pos a why → a.ending = false →
    (s.sched.get e).stack = l ++ [x] → pos = l.length → x.void = false → (∀ y ∈ l, y.void = false) → (s.ports.get e).record = none →
    (s.exch.part = .running → (s.ports.get e).offered = true → (s.sched.get e).queue = [] → (s.sched.get e).active = none →
      ∃ u, exec (.burstEnd (.done d)) s = .next u
        ∧ u.still =
          ((s.modSched e fun y => { y with access := .pop pos, heldDecision := false, heldTest := false, heldArrival := false }).emit
            (.printRun (if x.savedAs = .parked then .runParked else .runPushed) a.kind none 0 0 (pos + 1)) e.val a.order 0).still
        ∧ { tag := .pop e, address := s.exchBase + 33792 + (3 * e.val + pos) * 64, length := 64 } ∈ u.mover.requests)
    ∧ (why = .parked → x.awaited ≠ none → (s.sched.get e).heldDecision = false → (s.sched.get e).heldTest = false →
      (s.sched.get e).heldArrival = false → (s.ports.get e).state = .blocked →
      ∃ u, exec (.burstEnd .failed) s = .next u
        ∧ u.still =
          (((s.modSched e fun y => { y with access := .none, stack := l, active := some { a with awaited := x.awaited } }).emit
            (.printRun .pushFailed a.kind none 0 0 pos) e.val a.order 0).modPort e fun p =>
            { p with offered := false, testCause := none, waitingPrint := none }).still))
  ∧ (∀ (d : List Byte) (e : Fin 2) (g : Grant) (q : Request) (pos : Nat) (l : List DirEntry) (x : DirEntry) (s : State),
    s.calm 1 → s.lastBurst g q → q.tag = .pop e → g.write = none → (s.sched.get e).access = .pop pos → (s.sched.get e).stack = l ++ [x] →
    x.void = false → (∀ y ∈ l, y.void = false) → x.reprintItem = none → s.exch.part = .stopping → (s.ports.get e).state = .idle →
    (s.ports.get e).record = none → (s.ports.get e).waitingPrint = none → s.awaiting = [] →
    (∀ o, s.findOrder x.order = some o → o.state = .unresolved) →
    let w := frameOf (q.got ++ fit g.length d)
    let off (v : State) : State := v.modSched e fun y =>
      { y with access := .none, heldDecision := true, heldTest := false, heldArrival := false, stack := l }
    let lost (v : State) (cause : RunCause) : State :=
      (off v).emit (.printRun .runLost ((s.ports.get e).media.getD 0) (some cause) 1 0 l.length) e.val x.order 0
    (w.sum % 65536 = 65535 ∧ w.getD 31 0 = x.check ∧ w.getD 0 0 = x.order → (s.sched.get e).active = none →
      ∃ u, exec (.burstEnd (.done d)) s = .next u
        ∧ u.still =
          (((off s).modSched e fun y => { y with active := some (runOfFrame e w) }).emit
            (.printRun .runResumed (w.getD 7 0) none 0 0 l.length) e.val (w.getD 0 0) 0).still)
    ∧ (¬ (w.sum % 65536 = 65535 ∧ w.getD 31 0 = x.check ∧ w.getD 0 0 = x.order) →
      ∃ u, exec (.burstEnd (.done d)) s = .next u ∧ u.still = (lost s .check).still)
    ∧ (∃ u, exec (.burstEnd .failed) s = .next u ∧ u.still = (lost s .memory).still))

/-- ENGINE_CONTROL (R129, R130, R132), with no order named or a live one (R1): PAUSE moves an IDLE engine to PAUSED with ENGINE; RESUME withdraws the
pause request of an engine that is not PAUSED; RESET moves an engine in FAULT to OFFLINE with its fault record clear. Each ticket ends OK. -/
def Obligations.EngineControlled : Prop :=
  ∀ (t : Ticket) (e : Fin 2) (s : State), s.admits t →
    (s.calm 1 → (s.ports.get e).state = .idle →
      ∃ u, exec (.engineControlPause t e.val) s = .next u
        ∧ u.still =
          ((((s.accept t).modPort e fun p =>
            { p with pauseRequested := true, offered := false, testCause := none, waitingPrint := none, state := .paused }).emit
            (.engine .pause .idle .paused (s.ports.get e).faultRecord (s.ports.get e).media (s.ports.get e).sheets (s.ports.get e).ribbons
              (s.ports.get e).lastTemp) e.val 0 t.seq).endTicket t 13 .ok 0).still)
    ∧ (s.calm 0 → (s.ports.get e).pauseRequested = true → (s.ports.get e).state ≠ .paused →
      ∃ u, exec (.engineControlResume t e.val) s = .next u
        ∧ u.still = (((s.accept t).modPort e fun p => { p with pauseRequested := false }).endTicket t 13 .ok 0).still)
    ∧ (s.calm 1 → (s.ports.get e).state = .fault → s.awaiting = [] →
      ∃ u, exec (.engineControlReset t e.val) s = .next u
        ∧ u.still =
          (((((s.accept t).modPort e fun p => { p with faultRecord := none, state := .offline }).emit
            (.engine .reset .fault .offline none (s.ports.get e).media (s.ports.get e).sheets (s.ports.get e).ribbons
              (s.ports.get e).lastTemp) e.val 0 t.seq).attendIf s.exch.settings.engineBoth .engine).endTicket t 13 .ok 0).still)

/-- MEDIA_SET of an OFFLINE engine that offers no boundary, with the media kind it had, or with no run held for it (R133): kind and counts are
stored, the counts at most 1,000, ENGINE is queued, and the ticket ends OK with the sheet count, and bit 31 when a count was clamped. Its outcome is
the model's reading when nothing moves (log entry 23). -/
def Obligations.MediaStored : Prop :=
  ∀ (t : Ticket) (e : Fin 2) (kind sheets ribbons : Nat) (s : State), s.calm 1 → s.admits t → kind ≤ 3 →
    (s.ports.get e).state = .offline → (s.ports.get e).offered = false →
    (s.ports.get e).media = some kind ∨ (s.sched.get e).runCount = 0 → s.awaiting = [] →
    ∃ u, exec (.mediaSet t e.val kind sheets ribbons) s = .next u
      ∧ u.still =
        ((((s.accept t).modPort e fun p =>
          { p with media := some kind, sheets := min sheets 1000, ribbons := min ribbons 1000 }).emit
          (.engine .mediaSet .offline .offline (s.ports.get e).faultRecord (some kind) (min sheets 1000) (min ribbons 1000)
            (s.ports.get e).lastTemp) e.val 0 t.seq).endTicket t 14 .ok
          (min sheets 1000 + if 1000 < sheets ∨ 1000 < ribbons then 2147483648 else 0)).still

/-- ENGINE_PROOF on an IDLE engine whose profile is not barred (R110 to R112, R135): the engine goes to PROOF with ENGINE, the profile is
reserved, the renderer latches the live settings, its heat history is 0, and the first source line is asked for. That the skip count is 0 from then on
is the model's (log entry 71). -/
def Obligations.ProofStarted : Prop :=
  ∀ (t : Ticket) (e : Fin 2) (profile finish temp lines source dest : Nat) (s : State), s.calm 1 → s.admits t → profile ≤ 3 → finish ≤ 1 →
    0 < lines → lines ≤ 2400 → source + 3840 * lines ≤ 18446744073709551616 → dest + 4 * lines * 2560 ≤ 18446744073709551616 →
    (s.ports.get e).state = .idle → (∀ l ∈ s.toneLoads, l.profile ≠ profile) → (s.renderers.get e).inFetch = none →
    ∃ u, exec (.engineProof t e.val profile finish temp lines source dest) s = .next u
      ∧ u.still =
        ((((s.accept t).modPort e fun p =>
          { p with offered := false, testCause := none, waitingPrint := none, state := .proof }).emit
          (.engine .proof .idle .proof (s.ports.get e).faultRecord (s.ports.get e).media (s.ports.get e).sheets (s.ports.get e).ribbons
            (s.ports.get e).lastTemp) e.val 0 t.seq).modRend e fun r =>
          { r with
            activity := .proof
            inHand := some { image := source, lines := lines, profile := profile, finish := if finish = 0 then .glossy else .matte }
            latched := s.exch.settings.render.get e
            pass := some .y
            lineIndex := 0
            heat := List.replicate 1280 0
            ring := []
            fetchPos := if 1 < lines then some (.y, 1) else some (.m, 0)
            inFetch := some { pass := .y, line := 0 }
            skip := 0
            reserved := some profile
            proof := some { ticket := t, dest := dest, temp := temp } }).still
      ∧ s.mover.requests ++ [{ tag := .source e, address := source, length := 3840 }] <+: u.mover.requests

/-- LOAD_TONE alone in the load list, with no reservation of its profile held (R99, R100): it joins the list and its image of 512 bytes is asked
for. When it has been read, here with no print and no proof that waits for a profile, its 256 entries replace the tone table in one step, each at
most 1,023, and the ticket ends OK with the number of clamped entries, and bit 31 when any was clamped. -/
def Obligations.ToneAsked : Prop :=
  (∀ (t : Ticket) (profile colour address : Nat) (s : State), s.calm 0 → s.admits t → profile ≤ 3 → colour ≤ 2 →
    address + 512 ≤ 18446744073709551616 → s.toneLoads = [] → (∀ e, (s.renderers.get e).reserved ≠ some profile) →
    ∃ u, exec (.loadTone t profile colour address) s = .next u
      ∧ u.still = ({ s.accept t with
          toneLoads := [{ ticket := t, profile := profile, colour := colour, address := address, reading := true }] } : State).still
      ∧ s.mover.requests ++ [{ tag := .tone, address := address, length := 512 }] <+: u.mover.requests)
  ∧ (∀ (d : List Byte) (g : Grant) (r : Request) (l : ToneLoad) (s : State), s.calm 0 → s.lastBurst g r → r.tag = .tone → g.write = none →
    s.toneLoads = [l] → (∀ e, (s.ports.get e).waitingPrint = none ∧ (s.renderers.get e).proof = none) →
    let image := r.got ++ fit g.length d
    let entry (k : Nat) : Nat := ofLE ((image.drop (2 * k)).take 2)
    let clamped := ((List.range 256).filter fun k => decide (1023 < entry k)).length
    ∃ u, exec (.burstEnd (.done d)) s = .next u
      ∧ u.still =
        (({ s with toneLoads := [], tones := s.tones.set (3 * l.profile + l.colour) ((List.range 256).map fun k => min (entry k) 1023) } :
          State).endTicket l.ticket 12 .ok (clamped + if 0 < clamped then 2147483648 else 0)).still)

/-- READY. From OFFLINE, with no media loaded and no other condition, the boundary test moves the engine to NO_MEDIA with cause READY and the ENGINE
cause (R118, R119, R117). With media, sheets and ribbons the boundary is offered to the scheduler in RUNNING (R78). An active STANDARD run with an
EXPRESS run queued and room on the stack is pushed as STACKED (R79, R86); with no run the engine is IDLE (R80, R119); and with none active and none
saved the first queued run is taken, and its print starts when its order grants it, here for a PRODUCING order and a profile that is not barred (R80,
R81, R15, R120). In phase FEED of a print pass Y begins with PASS_BEGIN, and the renderer's heat history goes to 0 (R121, R104). That the engine is
still OFFLINE while its boundary is offered (log entry 61), that a BLOCKED run is pushed as STACKED here (log entry 59), and that the move to
PRINTING has cause READY (log entry 38), are the model's. -/
def Obligations.MechanismReady : Prop :=
  ∀ (e : Fin 2) (temp : Nat) (s : State), (s.ports.get e).watching = true →
    (s.calm 1 → (s.ports.get e).state = .offline → (s.ports.get e).record = none → (s.ports.get e).spoilUnwritten = false →
      (s.ports.get e).pauseRequested = false → (s.ports.get e).media = none → s.awaiting = [] →
      ∃ u, exec (.mechReady e temp) s = .next u
        ∧ u.still =
          (((s.modPort e fun p =>
            { p with lastTemp := some temp, heardAt := s.clock, signalAt := s.clock, offered := false, testCause := none
                     waitingPrint := none, state := .noMedia }).emit
            (.engine .ready .offline .noMedia (s.ports.get e).faultRecord none (s.ports.get e).sheets (s.ports.get e).ribbons (some temp))
            e.val 0 0).attend .engine).still)
    ∧ ((s.ports.get e).state = .offline → (s.ports.get e).record = none → (s.ports.get e).spoilUnwritten = false →
      (s.ports.get e).pauseRequested = false → (s.ports.get e).media ≠ none → 0 < (s.ports.get e).sheets → 0 < (s.ports.get e).ribbons →
      temp < (s.exch.settings.render.get e).tStop → s.exch.part = .running → (s.sched.get e).access = .none → s.awaiting = [] →
      let q := s.ports.get e
      let heard := (s.modPort e fun p => { p with lastTemp := some temp, heardAt := s.clock, signalAt := s.clock, waitingPrint := none }).modSched e
        fun x => { x with heldDecision := false, heldTest := false, heldArrival := false }
      (∀ (a r : Run), s.calm 0 → (s.sched.get e).active = some a → a.ending = false → a.cls = .standard → r ∈ (s.sched.get e).queue →
        r.cls = .express → (s.sched.get e).stack.length < 3 →
        let pos := (s.sched.get e).stack.length
        ∃ u, exec (.mechReady e temp) s = .next u
          ∧ u.still =
            ((heard.modPort e fun p => { p with offered := true, testCause := some .ready }).modSched e fun x =>
              { x with
                active := none
                access := .push pos a .stacked
                stack := x.stack ++ [{ order := a.order, check := checkWord a.frameWords, savedAs := .stacked, awaited := a.awaited
                                       reprintItem := if a.reprint then some a.item else none }] }).still
          ∧ s.mover.requests ++ [{ tag := .push e, address := s.exchBase + 33792 + (3 * e.val + pos) * 64, length := 64
                                   write := some a.frame }] <+: u.mover.requests)
      ∧ (s.calm 1 → (s.sched.get e).active = none → (s.sched.get e).queue = [] → (s.sched.get e).stack = [] →
        ∃ u, exec (.mechReady e temp) s = .next u
          ∧ u.still =
            ((heard.modPort e fun p => { p with offered := false, testCause := none, state := .idle }).emit
              (.engine .ready .offline .idle q.faultRecord q.media q.sheets q.ribbons (some temp)) e.val 0 0).still)
      ∧ (∀ (r : Run) (rest : List Run) (o : Order) (i : Item) (quote : Nat), s.calm 2 → (s.sched.get e).active = none →
        (s.sched.get e).queue = r :: rest → r.cls = .express ∨ (∀ x ∈ rest, x.cls = .standard) → r.reprint = false → (s.sched.get e).stack = [] →
        (∀ l ∈ s.toneLoads, l.profile ≠ r.profile) → (s.renderers.get e).inFetch = none → (s.renderers.get e).proof = none →
        s.findOrder r.order = some o → o.state = .producing → o.quote = some quote → quote ≤ o.held.getD 0 + o.cash →
        o.items[r.item]? = some i → i.staging = .staged → i.assigned + i.withdrawn < i.copies →
        let lines := s.linesOf i.product
        let print : Print :=
          { order := r.order, item := r.item, copy := r.copy, reprint := false, profile := r.profile, finish := r.finish, kind := r.kind }
        ∃ u, exec (.mechReady e temp) s = .next u
          ∧ u.still =
            ((((((heard.modSched e fun x =>
              { x with queue := rest, active := some { r with state := .active, awaited := none
                                                              reprintsLeft := s.exch.settings.reprintBudget } }).emit
              (.printRun .runActive r.kind none 0 0 0) e.val r.order 0).modOrder r.order fun o =>
              o.modItem r.item fun i => { i with assigned := i.assigned + 1 }).modRend e fun x =>
              { x with
                activity := .print
                inHand := some { image := i.address, lines := lines, profile := r.profile, finish := r.finish }
                latched := s.exch.settings.render.get e
                pass := none
                fetchPos := if 1 < lines then some (.y, 1) else some (.m, 0)
                inFetch := some { pass := .y, line := 0 }
                skip := 0
                ring := []
                reserved := some r.profile }).modPort e fun p =>
              { p with
                offered := false, testCause := none, sheets := q.sheets - 1, ribbons := q.ribbons - 1, phase := some .feed
                record := some { print := print, lines := lines }, command := some .feed, state := .printing }).emit
              (.engine .ready .offline .printing q.faultRecord q.media (q.sheets - 1) (q.ribbons - 1) (some temp)) e.val r.order 0).still
          ∧ s.mover.requests ++ [{ tag := .source e, address := i.address, length := 3840 }] <+: u.mover.requests))
    ∧ (∀ r : PrintRecord, s.calm 0 → (s.ports.get e).state = .printing → (s.ports.get e).record = some r →
      (s.ports.get e).phase = some .feed →
      ∃ u, exec (.mechReady e temp) s = .next u
        ∧ u.still =
          ((s.modPort e fun p =>
            { p with lastTemp := some temp, heardAt := s.clock, signalAt := s.clock, phase := some (.pass .y)
                     record := some { r with lineIndex := 0 }, command := some (.passBegin .y r.lines) }).modRend e fun q =>
            { q with pass := some .y, lineIndex := 0, heat := List.replicate 1280 0 }).still)

/-- A FAULT report of an IDLE engine (R116, R131, R117): the engine moves to FAULT with the code in its fault record, with ENGINE and the ENGINE
cause. -/
def Obligations.FaultOutsidePrint : Prop :=
  ∀ (e : Fin 2) (code : MechFaultCode) (s : State), s.calm 1 → (s.ports.get e).watching = true → (s.ports.get e).state = .idle →
    (s.ports.get e).record = none →
    let recorded : FaultCode :=
      match code with
      | .jam => .jam
      | .ribbonBreak => .ribbonBreak
      | .coverOpen => .coverOpen
      | .heater => .heater
    ∃ u, exec (.mechFault e code) s = .next u
      ∧ u.still =
        (((s.modPort e fun p =>
          { p with heardAt := s.clock, signalAt := s.clock, faultRecord := some recorded, offered := false, testCause := none
                   waitingPrint := none, state := .fault }).emit
          (.engine .fault .idle .fault (some recorded) (s.ports.get e).media (s.ports.get e).sheets (s.ports.get e).ribbons
            (s.ports.get e).lastTemp) e.val 0 0).attend .engine).still

/-- A line request of a colour pass that finds the ring empty (R104, R105, R121, R123): the line is LATE, its 1,280 counts are 0, the late lines
counter rises, the line's place is skipped, the margin is 0, and the print is marked. -/
def Obligations.LateLineAnswered : Prop :=
  ∀ (e : Fin 2) (temp : Nat) (r : PrintRecord) (p : Pass) (h : InHand) (s : State), s.calm 0 → (s.ports.get e).watching = true →
    (s.ports.get e).state = .printing → (s.ports.get e).record = some r → (s.ports.get e).phase = some (.pass p) →
    r.lineIndex < r.lines → p ≠ .o → (s.renderers.get e).pass = some p → (s.renderers.get e).inHand = some h →
    (s.renderers.get e).ring = [] →
    ∃ u, exec (.mechLineRequest e temp) s = .next u
      ∧ u.still =
        (((s.modRend e fun q => { q with margin := 0, lineIndex := q.lineIndex + 1, skip := q.skip + 1 }).count (.lateLines e) 1).modPort e
          fun q =>
            { q with
              lastTemp := some temp
              signalAt := s.clock
              record := some { r with lineIndex := r.lineIndex + 1, failed := r.failed + 1, firstCause := some (r.firstCause.getD .late) }
              lineData := List.replicate 1280 0 }).still

/-- The overcoat pass (R109): whatever the line's temperature code, dot i of line n has the overcoat pulses under GLOSSY or where n + i is even,
and their half, rounded down, elsewhere; the line does not fail, the ring, the heat history, the margin and the tone tables are left as they are,
and no count exceeds the overcoat pulses. That the margin is left as it is, and the line index rises by 1, is R104. -/
def Obligations.OvercoatLine : Prop :=
  ∀ (e : Fin 2) (temp : Nat) (h : InHand) (s : State), (s.renderers.get e).pass = some .o → (s.renderers.get e).inHand = some h →
    let po := (s.renderers.get e).latched.overcoat
    let n := (s.renderers.get e).lineIndex
    ∃ counts, s.renderLine e temp = (counts, none, s.modRend e fun r => { r with lineIndex := n + 1 })
      ∧ counts.length = 1280
      ∧ ∀ i < 1280, counts[i]? = some (if h.finish = .matte ∧ (n + i) % 2 = 1 then po / 2 else po) ∧ ∀ c ∈ counts, c ≤ po

/-- EJECT_DONE in phase EJECT (R121): the print has ended, and its end step is to follow. -/
def Obligations.SheetEjected : Prop :=
  ∀ (e : Fin 2) (temp : Nat) (r : PrintRecord) (s : State), s.calm 0 → (s.ports.get e).watching = true →
    (s.ports.get e).state = .printing → (s.ports.get e).record = some r → (s.ports.get e).phase = some .eject →
    ∃ u, exec (.mechEjectDone e temp) s = .next u
      ∧ u.still = (s.modPort e fun p => { p with lastTemp := some temp, signalAt := s.clock, phase := some .ended }).still

/-- 1,000 ms with no READY and no FAULT in a state that falls silent (R118, R117): the engine moves to OFFLINE with cause SILENT; the ENGINE cause
is set when the state left is one of alarm and the edge select is BOTH. -/
def Obligations.EngineFallsSilent : Prop :=
  ∀ (e : Fin 2) (st : EngineState) (s : State), s.calm 1 → (s.ports.get e).watching = true → (s.ports.get e).state = st →
    st ∈ [EngineState.idle, .blocked, .held, .cooling, .noMedia, .paused] → reached s.clock ((s.ports.get e).heardAt + 1000) = true →
    ∃ u, exec (.engineSilence e) s = .next u
      ∧ u.still =
        (((s.modPort e fun p => { p with offered := false, testCause := none, waitingPrint := none, state := .offline }).emit
          (.engine .silent st .offline (s.ports.get e).faultRecord (s.ports.get e).media (s.ports.get e).sheets (s.ports.get e).ribbons
            (s.ports.get e).lastTemp) e.val 0 0).attendIf
          (s.exch.settings.engineBoth && decide (st ∈ [EngineState.held, .cooling, .noMedia])) .engine).still

/-- A gap of 2,000 ms during a print (R122, R124, R125, R16, R82, R101, R103), here with no ticket in the load list, for an order that is UNRESOLVED,
CANCELLING with its run still active, or PRODUCING with another item still to print. The print ends SPOILED with the fault SILENT. The active run
answers how the copy goes on: ENDED_RUN when it is ending, NO_REPRINT when no reprint is left, and at both the copy counts as spoiled and
undeliverable when it was an assigned one still to be printed, and the run's next copy rises; else REPRINT, and the copy counts as spoiled and is
the run's next print again, with one reprint less. The renderer is given up, and the engine moves to FAULT. The silence outside a print is counted
from then on (log entry 25). -/
def Obligations.PrintFallsSilent : Prop :=
  ∀ (e : Fin 2) (r : PrintRecord) (ph : Phase) (a : Run) (o : Order) (s : State), s.calm 2 → (s.ports.get e).record = some r →
    (s.ports.get e).phase = some ph → ph ≠ .ended → (s.ports.get e).state = .printing →
    reached s.clock ((s.ports.get e).signalAt + 2000) = true → (s.sched.get e).active = some a → s.toneLoads = [] →
    s.findOrder r.print.order = some o →
    (o.state = .unresolved ∨ (o.state = .cancelling ∧ a.order = r.print.order)
      ∨ (o.state = .producing ∧ ∃ k other, k ≠ r.print.item ∧ o.items[k]? = some other
          ∧ other.delivered + other.undeliverable < other.copies)) →
    let q := s.ports.get e
    let first := r.firstCause.getD .fault
    let answer : CopyAnswer := if a.ending then .endedRun else if 0 < a.reprintsLeft then .reprint else .noReprint
    ∃ u, exec (.printSilence e) s = .next u
      ∧ u.still =
        (((((((s.modPort e fun p =>
          { p with faultRecord := some .silent, phase := none, record := none, spoilUnwritten := true, heardAt := s.clock
                   offered := false, testCause := none, waitingPrint := none, state := .fault }).modSched e fun x =>
          { x with active := some (if answer = .reprint then { a with reprint := true, reprintsLeft := a.reprintsLeft - 1 }
                                   else { a with copy := a.copy + 1, reprint := false }) }).modRend e fun x =>
          { x with activity := .idle, inHand := none, pass := none, fetchPos := none, ring := [], reserved := none
                   inFetch := x.inFetch.map fun f => { f with stale := true } }).modOrder r.print.order fun o =>
          o.modItem r.print.item fun i =>
            if answer = .reprint then { i with spoiled := i.spoiled + 1 }
            else if i.delivered + i.undeliverable < i.assigned + i.withdrawn then
              { i with spoiled := i.spoiled + 1, undeliverable := i.undeliverable + 1 }
            else i).emit
          (.printEnd true r.print.item r.print.copy r.print.reprint r.failed (some first) (some .silent) (some answer) q.sheets)
          e.val r.print.order 0).emit
          (.engine .fault .printing .fault (some .silent) q.media q.sheets q.ribbons q.lastTemp) e.val r.print.order 0).attend
          .engine).still

/-- The end step of a print with no failed line and no fault, which used the last sheet (R124, R16, R82, R119), for a PRODUCING order with another
item still to print: the copy counts as delivered when it was an assigned one not yet accounted, the run goes on to the next copy, PRINT DELIVERED
is queued, the renderer is given up, and the boundary test moves the engine to NO_MEDIA. The silence outside a print is counted from then on (log
entry 25). That the ENGINE outcome of this move carries order 0 is the model's (log entry 87). -/
def Obligations.PrintDelivered : Prop :=
  ∀ (e : Fin 2) (r : PrintRecord) (a : Run) (o : Order) (other : Item) (k : Nat) (s : State), s.calm 2 →
    (s.ports.get e).record = some r → r.failed = 0 → r.faulted = false → (s.ports.get e).phase = some .ended →
    (s.ports.get e).state = .printing → (s.ports.get e).faultRecord = none → (s.ports.get e).spoilUnwritten = false →
    (s.ports.get e).pauseRequested = false → (s.ports.get e).sheets = 0 → (s.sched.get e).active = some a → s.toneLoads = [] →
    s.findOrder r.print.order = some o → o.state = .producing →
    k ≠ r.print.item → o.items[k]? = some other → other.delivered + other.undeliverable < other.copies →
    let q := s.ports.get e
    ∃ u, exec (.printEndStep e) s = .next u
      ∧ u.still =
        ((((((((s.modPort e fun p =>
          { p with phase := none, record := none, heardAt := s.clock, offered := false, testCause := none, waitingPrint := none
                   state := .noMedia }).modSched e fun x =>
          { x with active := some { a with copy := a.copy + 1, reprint := false } }).modRend e fun x =>
          { x with activity := .idle, inHand := none, pass := none, fetchPos := none, ring := [], reserved := none
                   inFetch := x.inFetch.map fun f => { f with stale := true } }).modOrder r.print.order fun o =>
          o.modItem r.print.item fun i =>
            if i.delivered + i.undeliverable < i.assigned + i.withdrawn then { i with delivered := i.delivered + 1 } else i).emit
          (.printEnd false r.print.item r.print.copy r.print.reprint 0 r.firstCause none none 0) e.val r.print.order 0).emit
          (.engine .boundary .printing .noMedia none q.media 0 q.ribbons q.lastTemp) e.val 0 0).attend .engine)).still

/-! ## The tender link -/

/-- Every frame the terminal can send is received as it was sent (R139, R140, R141, R204): the bytes of a sound frame of any sequence, kind and
payload that the formats define join the receive queue as that sequence, kind and payload, while the queue has room. -/
def Obligations.FrameRoundTrip : Prop :=
  ∀ (seq kind : Nat) (payload : List Byte) (s : State), s.quiet → s.tender.listening = true → s.tender.loopOn = false →
    s.tender.rx = [] → seq < 256 → kind < 256 → payload.length ≤ 40 → (contentOf kind seq payload).isSome = true →
    s.tender.queue.length < 8 →
    ∃ u, exec (.tenderFrameReceived (frameBytes seq kind payload false)) s = .next u
      ∧ u.still = (s.modTender fun t =>
          { t with
            rxLast := s.clock
            lastValid := some s.clock
            queue := t.queue ++ [{ seq := seq, kind := kind, payload := payload, arrival := s.clock }] }).still

/-- Discarded frames (R140, R202): a frame sent with its CRC inverted, whatever it carries, is discarded at its last byte, and a frame in assembly
is discarded after a gap of more than 20 ms; each counts one frame error, and the receiver hunts for a sync byte again. -/
def Obligations.FramesDiscarded : Prop :=
  ∀ s : State, s.quiet →
    (∀ (seq kind : Nat) (payload : List Byte), s.tender.listening = true → s.tender.loopOn = false → s.tender.rx = [] →
      payload.length ≤ 40 →
      ∃ u, exec (.tenderFrameReceived (frameBytes seq kind payload true)) s = .next u
        ∧ u.still = ((s.modTender fun t => { t with rxLast := s.clock }).count .frameErrors 1).still)
    ∧ (s.tender.rx ≠ [] → reached s.clock (s.tender.rxLast + 21) = true →
      ∃ u, exec .receiveGapTimeout s = .next u
        ∧ u.still = ((s.modTender fun t => { t with rx := [] }).count .frameErrors 1).still)

/-- The second agreeing STATE frame at the head of the receive queue brings the link UP (R141 to R143): TENDER LINK_UP is queued, and the TENDER
cause is set for OUT_OF_SERVICE or under the edge select BOTH. That OUT_OF_SERVICE counts as newly accepted at every LINK_UP, also when it was the
accepted state before, is the model's (log entry 90). -/
def Obligations.LinkComesUp : Prop :=
  ∀ (f : RxFrame) (rest : List RxFrame) (code : TermState) (s : State), s.calm 1 → s.tender.queue = f :: rest →
    f.content = some (.state code) → s.tender.loopOn = false → s.tender.candidate = some code → s.tender.linkUp = false →
    ∃ u, exec .receiveQueueProcess s = .next u
      ∧ u.still =
        (((s.modTender fun t => { t with queue := rest, linkUp := true, accepted := some code }).emit
          (.tender .linkUp s.tender.accepted (some code) true false s.tender.quiet s.tender.echo) 0 0 0).attendIf
          (code == .outOfService || s.exch.settings.tenderBoth) .tender).still

/-- 3,000 ms with no valid frame bring the link DOWN, with TENDER LINK_DOWN and the TENDER cause (R143). -/
def Obligations.LinkGoesDown : Prop :=
  ∀ (t : Nat) (s : State), s.calm 1 → s.tender.listening = true → s.tender.loopOn = false → s.tender.linkUp = true →
    s.tender.lastValid = some t → reached s.clock (t + 3000) = true →
    ∃ u, exec .linkSilence s = .next u
      ∧ u.still =
        (((s.modTender fun x => { x with linkUp := false, candidate := none }).emit
          (.tender .linkDown s.tender.accepted s.tender.accepted false false s.tender.quiet s.tender.echo) 0 0 0).attend .tender).still

/-- The gap after the last frame has passed and a HOLD heads the request queue (R144 to R146, 12.8): its frame starts with the next sequence, it
becomes outstanding, the order's record takes the sequence, and PAYMENT SENT is queued; an armed error insertion is used up and inverts its CRC (R202).
The reference and amount of the outcome are the request's (log entry 22). A HOLD whose order has been closed meanwhile is sent as well, and its
sequence goes into the request of the live order that carries the number then: that is the model's (log entry 66). -/
def Obligations.HoldSent : Prop :=
  ∀ (e : TenderEntry) (rest : List TenderEntry) (q : Nat) (s : State), s.calm 1 → s.tender.tx = none → s.tender.outstanding = none →
    s.tender.testSend = none → s.tender.listening = true → s.tender.linkUp = true → s.tender.loopOn = false →
    s.tender.accepted ≠ some .outOfService → s.tender.requests = e :: rest → e.kind = .hold → s.tender.nextSeq = q → 1 ≤ q → q ≤ 255 →
    s.tender.reservedSeqs = [] → (∀ t, s.tender.lastTxEnd = some t → reached s.clock (t + 30) = true) →
    ∃ u, exec .transmitGapElapsed s = .next u
      ∧ u.still =
        (((s.modTender fun t =>
          { t with
            requests := rest
            outstanding := some { entry := e, seq := q }
            nextSeq := q % 255 + 1
            armed := t.armed - 1
            tx := some { what := .request q, started := s.clock
                         bytes := frameBytes q 1 (beBytes 2 e.order ++ beBytes 4 e.amount) (decide (0 < t.armed)) } }).modOrder e.order
          fun o => { o with request := o.request.map fun r => { r with seq := some q } }).emit
          (.payment .sent (some .hold) q none none e.reference e.amount) 0 e.order 0).still

/-- The timers of a request (R146, R148). The end of its frame, ten bit times a byte at 19,200 baud after its start, starts the response timeout
of its kind, here the hold timeout, counted from that end; the expiry in phase AWAIT_RESULT makes a QUERY due, with the short timeout from the
expiry. The end of a frame is taken in whole milliseconds (log entry 10), and the timeout is that of the settings at the step (log entry 63); both are
the model's. -/
def Obligations.RequestTimers : Prop :=
  ∀ (o : Outstanding) (s : State), s.calm 0 → s.tender.outstanding = some o →
    (∀ x : Transmission, s.tender.tx = some x → x.what = .request o.seq → o.expiry = none → o.entry.kind = .hold →
      reached s.clock (x.started + x.bytes.length * 10000 / 19200) = true →
      let ended := clockAt (x.started + x.bytes.length * 10000 / 19200)
      ∃ u, exec .transmitEnd s = .next u
        ∧ u.still = (s.modTender fun t =>
            { t with tx := none, lastTxEnd := some ended
                     outstanding := some { o with expiry := some (clockAt (ended + 1000 * s.exch.settings.holdTimeout)) } }).still)
    ∧ (∀ t : Nat, o.phase = .awaitResult → o.expiry = some t → reached s.clock t = true →
      ∃ u, exec .responseExpiry s = .next u
        ∧ u.still = (s.modTender fun x =>
            { x with outstanding := some { o with phase := .queryDue
                                                  expiry := some (clockAt (t + 1000 * s.exch.settings.shortTimeout)) } }).still)

/-- The query's expiry makes a CAPTURE unresolved (R148 to R150, R24): PAYMENT UNRESOLVED is queued, its sequence is reserved, and the order goes
to UNRESOLVED with the request kept as its unresolved request. The reference and amount of the outcome are the request's (log entry 22). -/
def Obligations.CaptureUnresolved : Prop :=
  ∀ (o : Outstanding) (w : Order) (r : OrderRequest) (t : Nat) (s : State), s.calm 2 → s.tender.outstanding = some o →
    o.phase ≠ .awaitResult → o.expiry = some t → reached s.clock t = true → o.entry.kind = .capture → o.entry.ticket = none →
    s.findOrder o.entry.order = some w → w.state = .settling → w.request = some r → r.seq = some o.seq →
    ∃ u, exec .queryExpiry s = .next u
      ∧ u.still =
        ((((s.modTender fun x => { x with outstanding := none, reservedSeqs := x.reservedSeqs ++ [o.seq] }).modOrder o.entry.order
          fun w =>
            { w with
              request := none
              unresolved := some { kind := r.kind, amount := r.amount, seq := o.seq, cardPart := r.cardPart, prior := w.state, reserved := true }
              state := .unresolved }).emit
          (.payment .unresolved (some .capture) o.seq none none o.entry.reference o.entry.amount) 0 o.entry.order 0).emit
          (.orderState false (some .settling) .unresolved .tender) 0 o.entry.order 0).still

/-- PAY_CARD for a QUOTED order with no hold and no request (R11, R38, R144, R153): a HOLD for the quote less the cash credited joins the request
queue with its ticket, and the order goes to FUNDING. -/
def Obligations.HoldRequested : Prop :=
  ∀ (t : Ticket) (o : Order) (s : State), s.calm 1 → s.takes t → s.findOrder t.order = some o → o.state = .quoted → o.held = none →
    o.request = none → s.tender.loopOn = false →
    let amount := o.quote.getD 0 - o.cash
    ∃ u, exec (.payCard t) s = .next u
      ∧ u.still =
        (((((s.accept t).modOrder t.order fun o =>
          { o with request := some { kind := .hold, amount := amount }, lastActivity := s.clock, state := .funding
                   awaitingEngine := false }).enqueueTender
          { kind := .hold, order := t.order, amount := amount, reference := o.holdRef.getD 0, ticket := some t }).dropAwaiting
          t.order).emit (.orderState false (some .quoted) .funding .ticket) 0 t.order t.seq).still

/-- LINK_TEST with no request queued or outstanding (R200 to R202): LOOP_ON closes the loop with TENDER LOOP and keeps the link's state aside;
LOOP_OFF gives it back and ends with the echo count; SEND begins a run of test frames; INSERT_ERROR arms one more insertion, up to 255. In a QUIET
loop the line output stays idle. No order is named, or a live one (R1). -/
def Obligations.LinkTested : Prop :=
  ∀ (t : Ticket) (s : State), s.admits t → s.tender.outstanding = none → s.tender.requests = [] →
    (∀ mode ≤ 1, s.calm 1 → s.tender.loopOn = false →
      ∃ u, exec (.linkTestLoopOn t mode) s = .next u ∧ (mode = 1 → u.tender.lineOutput = none)
        ∧ u.still =
          ((((s.accept t).modTender fun x =>
            { x with loopOn := true, quiet := mode == 1, echo := 0, candidate := none, rx := [], heldLink := x.linkUp
                     heldAccepted := x.accepted }).emit
            (.tender .loop s.tender.accepted s.tender.accepted s.tender.linkUp true (mode == 1) 0) 0 0 t.seq).endTicket t 18 .ok 0).still)
    ∧ (s.calm 1 → s.tender.loopOn = true → s.tender.testSend = none →
      ∃ u, exec (.linkTestLoopOff t) s = .next u
        ∧ u.still =
          ((((s.accept t).modTender fun x =>
            { x with loopOn := false, linkUp := x.heldLink, accepted := x.heldAccepted, lastValid := some s.clock
                     candidate := none }).emit
            (.tender .loop s.tender.heldAccepted s.tender.heldAccepted s.tender.heldLink false s.tender.quiet s.tender.echo) 0 0
            t.seq).endTicket t 18 .ok s.tender.echo).still)
    ∧ (∀ count, s.calm 0 → count ≠ 0 → s.tender.loopOn = true → s.tender.testSend = none →
      ∃ u, exec (.linkTestSend t count) s = .next u
        ∧ u.still = ((s.accept t).modTender fun x => { x with testSend := some { ticket := t, total := count, started := 0 } }).still)
    ∧ (s.calm 0 →
      ∃ u, exec (.linkTestInsertError t) s = .next u
        ∧ u.still = (((s.accept t).modTender fun x => { x with armed := min 255 (x.armed + 1) }).endTicket t 18 .ok
            (min 255 (s.tender.armed + 1))).still)

/-! ## The cash acceptor -/

/-- A completed low run is classed by its length (R159, R164), here while no settle window is open: a glitch and an invalid run count in their
counters; a credit pulse joins the tail of the waiting list for the bound order, or as STRAY, and inhibit follows R162. That the command leaves the pulse
line high is the model's (log entry 35). -/
def Obligations.PulsesClassed : Prop :=
  ∀ (length : Nat) (s : State), s.quiet → s.cash.sampling = true → s.cash.lineFault = false → s.cash.phase ≠ .window →
    1 ≤ length → length ≤ 499 →
    let dest : Option Nat := if s.cash.phase = .bound then some s.cash.bound else none
    ∃ u, exec (.cashPulseCompleted length) s = .next u
      ∧ u.still =
        (if length < 20 then (s.modCash fun c => { c with lowRun := 0, lineHigh := true }).count .glitch 1
         else if length ≤ 150 then
           s.modCash fun c => { c with lowRun := 0, lineHigh := true, list := joinCredit dest c.list }
         else (s.modCash fun c => { c with lowRun := 0, lineHigh := true }).count .invalidPulses 1).still

/-- The line fault (R160): the 500th low sample of a run sets it, the 1,000th high sample clears it, and each adds its event to the waiting list;
a FAULT event at the head of the list sets the fault flag with CASH FAULT. Inhibit follows R162 at each. That the first two commands set the level of
the pulse line is the model's (log entry 35). The application of a FAULT_CLEARED event is left out. -/
def Obligations.LineFaults : Prop :=
  ∀ s : State,
    (s.quiet → s.cash.sampling = true → s.cash.lineFault = false →
      ∃ u, exec .lineFaultSet s = .next u
        ∧ u.still = (s.modCash fun c =>
            { c with lineFault := true, lowRun := 500, highRun := 0, lineHigh := false, list := c.list ++ [.fault] }).still)
    ∧ (s.quiet → s.cash.lineFault = true →
      ∃ u, exec .lineFaultCleared s = .next u
        ∧ u.still = (s.modCash fun c =>
            { c with lineFault := false, lowRun := 0, highRun := 0, lineHigh := true, list := c.list ++ [.faultCleared] }).still)
    ∧ (∀ rest, s.calm 1 → s.cash.list = .fault :: rest → s.cash.bindWaiting = [] →
      let v := s.modCash fun c => { c with faultFlag := true, list := rest }
      ∃ u, exec .cashFaultApplied s = .next u
        ∧ u.still = (v.emit (.cash .fault 0 0 0 (some .acceptorFault) v.cash.inhibit) 0 0 0).still)

/-- Binding (R11, R161): a PAY_CASH_BIND for a QUOTED order, with nothing bound and an empty list, sets cash bound, moves the order to FUNDING and
adds a BOUND event; the event at the head of the list makes the binding, with CASH BOUND and the amount still needed. A ticket that the part does not
take, as in STOPPING, STOPPED and HALTED, is left so (R168). -/
def Obligations.CashBinding : Prop :=
  ∀ (t : Ticket) (s : State), (¬ s.takes t → exec (.payCashBind t) s = .next s) ∧ (s.calm 1 →
    (∀ o : Order, s.takes t → s.findOrder t.order = some o → o.state = .quoted → s.cash.phase = .none → s.cash.list = [] →
      ∃ u, exec (.payCashBind t) s = .next u
        ∧ u.still =
          (((((s.accept t).modOrder t.order fun o =>
            { o with cashBound := true, lastActivity := s.clock, state := .funding, awaitingEngine := false }).dropAwaiting t.order).emit
            (.orderState false (some .quoted) .funding .ticket) 0 t.order t.seq).modCash fun c =>
            { c with list := [.bind t o.cash (o.quote.getD 0 - o.held.getD 0)] }).still)
    ∧ (∀ (seen need : Nat) (rest : List CashItem), s.cash.list = .bind t seen need :: rest → s.cash.bindWaiting = [] →
      let v := s.modCash fun c => { c with phase := .bound, bound := t.order, seen := seen, need := need, list := rest }
      ∃ u, exec .cashBindApplied s = .next u
        ∧ u.still = ((v.emit (.cash .bound 0 (need - seen) seen none v.cash.inhibit) 0 t.order t.seq).endTicket t 8 .ok
            (need - seen)).still))

/-- The settle window (R163, R167): PAY_CASH_UNBIND of the bound order opens it for 500 ms; its end adds the window's end event to the list, once;
and the event at the head of the list ends the binding with CASH UNBOUND, and clears cash bound, here for a FUNDED order. When the end event joins
the list is the model's reading (log entry 32). A PAY_CASH_UNBIND that the part does not take, as in STOPPING, STOPPED and HALTED, is left untaken
(R168). -/
def Obligations.SettleWindow : Prop :=
  ∀ s : State,
    (∀ t : Ticket, ¬ s.takes t → exec (.payCashUnbind t) s = .next s)
    ∧ (∀ (t : Ticket) (o : Order), s.calm 0 → s.takes t → s.findOrder t.order = some o → s.cash.phase = .bound → s.cash.bound = t.order →
      ∃ u, exec (.payCashUnbind t) s = .next u
        ∧ u.still = (((s.accept t).modCash fun c =>
            { c with phase := .window, windowEnd := some (clockAt (s.clock + 500)), windowReason := .unbind }).endTicket t 9 .ok 0).still)
    ∧ (∀ t : Nat, s.quiet → s.cash.phase = .window → s.cash.windowEnd = some t → CashItem.windowEnd ∉ s.cash.list →
      reached s.clock t = true →
      ∃ u, exec .settleWindowExpiry s = .next u ∧ u.still = (s.modCash fun c => { c with list := c.list ++ [.windowEnd] }).still)
    ∧ (∀ (o : Order) (rest : List CashItem), s.calm 1 → s.cash.list = .windowEnd :: rest → s.cash.bindWaiting = [] →
      s.findOrder s.cash.bound = some o → o.state = .funded → o.cashBound = true →
      let v := s.modCash fun c => { c with phase := .none, bound := 0, windowEnd := none, seen := 0, need := 0, list := rest }
      ∃ u, exec .windowEndApplied s = .next u
        ∧ u.still = ((v.emit (.cash .unbound 0 0 o.cash (some s.cash.windowReason) v.cash.inhibit) 0 s.cash.bound 0).modOrder s.cash.bound
            fun o => { o with cashBound := false }).still)

/-- Credits and strays (R13, R165, R166). A credit group of a bound FUNDING order within the cash limit, which leaves the funds below the quote,
is credited whole with CASH CREDIT, and cash seen and cash need follow the record. A STRAY group brings CASH STRAY and counts its pulses. -/
def Obligations.CashCredited : Prop :=
  ∀ s : State, s.calm 1 → s.cash.bindWaiting = [] →
    (∀ (n count : Nat) (o : Order) (quote : Nat) (rest : List CashItem), s.cash.list = .credit (some n) count :: rest →
      s.findOrder n = some o → o.cashBound = true → o.state = .funding → o.quote = some quote → 0 < s.cash.pulseValue →
      o.cash + count * s.cash.pulseValue ≤ 2000000 → o.held.getD 0 + o.cash + count * s.cash.pulseValue < quote →
      let cash := o.cash + count * s.cash.pulseValue
      let v := s.modCash fun c => { c with seen := cash, need := quote - o.held.getD 0, list := rest }
      ∃ u, exec .cashCreditApplied s = .next u
        ∧ u.still = ((v.modOrder n fun o =>
            { o with cash := o.cash + count * s.cash.pulseValue, surplus := o.surplus.map (· + count * s.cash.pulseValue), lastActivity := s.clock }).emit
            (.cash .credit count (count * s.cash.pulseValue) cash none v.cash.inhibit) 0 n 0).still)
    ∧ (∀ (count : Nat) (rest : List CashItem), s.cash.list = .credit none count :: rest →
      let v := s.modCash fun c => { c with list := rest }
      ∃ u, exec .cashStrayApplied s = .next u
        ∧ u.still = ((v.emit (.cash .stray count (count * s.cash.pulseValue) 0 (some .noBinding) v.cash.inhibit) 0 0 0).count .strayCash
            count).still)

/-! ## Settings, counters and the bus -/

/-- REFRESH_SETTINGS with no reading in course asks for the setup block (R172); one that was handed on before a HALTED makes no access to the region
there (R187). The bus master enable follows the kiosk processor (R192); with it taken away nothing follows in a part that is in RESET with no
request at the mover. REFRESH_SETTINGS tickets are served one at a time (log entry 37). -/
def Obligations.RefreshAndBusMaster : Prop :=
  (∀ (t : Ticket) (s : State), s.quiet → s.admits t → s.exch.refreshes = [] → s.exch.setupReading = none → s.exch.setupReady = none →
    (s.exch.part ≠ .halted →
      ∃ u, exec (.refreshSettings t) s = .next u
        ∧ u.still = ((s.accept t).modExch fun x => { x with setupReading := some (.refresh t) }).still
        ∧ s.mover.requests ++ [{ tag := .setup, address := s.exchBase, length := 1024 }] <+: u.mover.requests)
    ∧ (s.exch.part = .halted →
      ∃ u, exec (.refreshSettings t) s = .next u ∧ u.still = ((s.accept t).modExch fun x => { x with refreshes := [t] }).still))
  ∧ (∀ s : State, s.agenda = [] →
    ∃ u, exec (.busMasterEnableChange true) s = .next u ∧ u.still = (s.modExch fun x => { x with busMaster := true }).still)
  ∧ (∀ s : State, s.agenda = [] → s.exch.part = .reset → s.mover.requests = [] →
    exec (.busMasterEnableChange false) s = .next (s.modExch fun x => { x with busMaster := false }))

/-- Counter reports (R195 to R199). READ_COUNTERS makes a report due or joins the due one; under AUTO the report timer's expiry makes one due; and
the due report queues three outcomes with the counters' values, line margins and flags, after which every counter and flag is clear, the margins
are 16 and the ticket ends OK with the report number. -/
def Obligations.CounterReports : Prop :=
  (∀ (t : Ticket) (s : State), s.quiet → s.admits t →
    ∃ u, exec (.readCounters t) s = .next u
      ∧ u.still = ((s.accept t).modCounters fun c =>
          match c.due with
          | none => { c with due := some { seq := t.seq, tickets := [t] }, timer := none }
          | some d => { c with due := some { d with tickets := d.tickets ++ [t] } }).still)
  ∧ (∀ (t n : Nat) (s : State), s.quiet → s.counters.timer = some t → s.exch.settings.report = .auto n →
    reached s.clock (t + 1000 * n) = true →
    ∃ u, exec .reportTimerExpiry s = .next u
      ∧ u.still = (s.modCounters fun c =>
          { c with timer := none, due := some (c.due.getD { seq := 0, tickets := [] }) }).still)
  ∧ (∀ (t : Ticket) (seq : Nat) (s : State), s.calm 3 → s.counters.due = some { seq := seq, tickets := [t] } →
    let number := if s.counters.reportNumber = 65535 then 1 else s.counters.reportNumber + 1
    let v := s.counters.counters.map Counter.value
    let f := s.counters.counters.map Counter.saturated
    ∃ u, exec .counterReport s = .next u
      ∧ u.still =
        (((((((s.emit (.counters number 1 (v.take 8) (f.take 8)) 0 0 seq).emit
          (.counters number 2 ((v.drop 8).take 2 ++ [s.renderers.zero.margin, s.renderers.one.margin] ++ (v.drop 10).take 4)
            ((f.drop 8).take 2 ++ [false, false] ++ (f.drop 10).take 4)) 0 0 seq).emit
          (.counters number 3 ((v.drop 14).take 2 ++ List.replicate 6 0) ((f.drop 14).take 2 ++ List.replicate 6 false)) 0 0
          seq).modRend 0 fun r => { r with margin := 16 }).modRend 1 fun r => { r with margin := 16 }).modCounters fun c =>
          { c with
            counters := List.replicate 16 {}, periodMark := false, reportNumber := number, due := none
            timer := if s.exch.ranOnce = true ∧ s.exch.settings.report ≠ .manual then some s.clock else none }).endTicket t 17 .ok
          number).still)

/-! ## What every step keeps -/

/-- The pending outcome queue never holds more than its 16 places: every step that goes on from a state within them leaves the part within them
(R178). -/
def Obligations.QueueStaysWithinRoom : Prop :=
  ∀ s u : State, s.withinRoom → step s = .next u → u.withinRoom

/-- Inhibit is RELEASED exactly while the four conditions of R162 hold, after every step from a state in which it is so. -/
def Obligations.InhibitFollowsR162 : Prop :=
  ∀ s u : State, s.cash.obeysR162 → step s = .next u → u.cash.obeysR162

/-- The relations of R3 between an item's counts hold after every step from a state in which they hold: a copy is not assigned, withdrawn,
delivered or given up twice, whatever reports arrive. -/
def Obligations.ItemCountsStayConsistent : Prop :=
  ∀ s u : State, s.obeysR3 → step s = .next u → u.obeysR3

/-- The part after reset meets the conditions that every step keeps, and its region begins at a multiple of 64 KiB (R169, R188). -/
def Obligations.ResetMeetsInvariants : Prop :=
  State.reset.withinRoom ∧ State.reset.cash.obeysR162 ∧ State.reset.obeysR3 ∧ State.reset.baseAligned
end

