-- ==== Sys2Proof/Laws/State.lean ====
section
/-! SUPPORT. What each update of the state leaves and changes, one lemma for each field and update; and what reading one of a bank gives
after one of it has been replaced. -/

namespace Sys2Proof.Machine

/-! ## Banks -/

@[simp] theorem Two.get_set {α : Type} (t : Two α) (e : Fin 2) (a : α) : (t.set e a).get e = a := by
  fin_cases e <;> rfl
theorem Two.get_set_ne {α : Type} (t : Two α) (e k : Fin 2) (a : α) (h : k ≠ e) : (t.set e a).get k = t.get k := by
  fin_cases e <;> fin_cases k <;> first | rfl | exact absurd rfl h
@[simp] theorem Two.set_set {α : Type} (t : Two α) (e : Fin 2) (a b : α) : (t.set e a).set e b = t.set e b := by
  fin_cases e <;> rfl
@[simp] theorem Two.set_get {α : Type} (t : Two α) (e : Fin 2) : t.set e (t.get e) = t := by
  fin_cases e <;> rfl
@[simp] theorem Four.get_set {α : Type} (t : Four α) (n : Fin 4) (a : α) : (t.set n a).get n = a := by
  fin_cases n <;> rfl
theorem Four.get_set_ne {α : Type} (t : Four α) (n k : Fin 4) (a : α) (h : k ≠ n) : (t.set n a).get k = t.get k := by
  fin_cases n <;> fin_cases k <;> first | rfl | exact absurd rfl h
@[simp] theorem Four.set_set {α : Type} (t : Four α) (n : Fin 4) (a b : α) : (t.set n a).set n b = t.set n b := by
  fin_cases n <;> rfl
@[simp] theorem Four.set_get {α : Type} (t : Four α) (n : Fin 4) : t.set n (t.get n) = t := by
  fin_cases n <;> rfl

/-! ## modExch -/

@[simp] theorem State.modExch_pending (f : Exchange → Exchange) (s : State) : (s.modExch f).pending = s.pending := rfl
@[simp] theorem State.modExch_clock (f : Exchange → Exchange) (s : State) : (s.modExch f).clock = s.clock := rfl
@[simp] theorem State.modExch_exch (f : Exchange → Exchange) (s : State) : (s.modExch f).exch = f s.exch := rfl
@[simp] theorem State.modExch_mover (f : Exchange → Exchange) (s : State) : (s.modExch f).mover = s.mover := rfl
@[simp] theorem State.modExch_orders (f : Exchange → Exchange) (s : State) : (s.modExch f).orders = s.orders := rfl
@[simp] theorem State.modExch_products (f : Exchange → Exchange) (s : State) : (s.modExch f).products = s.products := rfl
@[simp] theorem State.modExch_useCounts (f : Exchange → Exchange) (s : State) : (s.modExch f).useCounts = s.useCounts := rfl
@[simp] theorem State.modExch_priceLoads (f : Exchange → Exchange) (s : State) : (s.modExch f).priceLoads = s.priceLoads := rfl
@[simp] theorem State.modExch_slots (f : Exchange → Exchange) (s : State) : (s.modExch f).slots = s.slots := rfl
@[simp] theorem State.modExch_sched (f : Exchange → Exchange) (s : State) : (s.modExch f).sched = s.sched := rfl
@[simp] theorem State.modExch_awaiting (f : Exchange → Exchange) (s : State) : (s.modExch f).awaiting = s.awaiting := rfl
@[simp] theorem State.modExch_ports (f : Exchange → Exchange) (s : State) : (s.modExch f).ports = s.ports := rfl
@[simp] theorem State.modExch_renderers (f : Exchange → Exchange) (s : State) : (s.modExch f).renderers = s.renderers := rfl
@[simp] theorem State.modExch_tones (f : Exchange → Exchange) (s : State) : (s.modExch f).tones = s.tones := rfl
@[simp] theorem State.modExch_toneLoads (f : Exchange → Exchange) (s : State) : (s.modExch f).toneLoads = s.toneLoads := rfl
@[simp] theorem State.modExch_tender (f : Exchange → Exchange) (s : State) : (s.modExch f).tender = s.tender := rfl
@[simp] theorem State.modExch_cash (f : Exchange → Exchange) (s : State) : (s.modExch f).cash = s.cash := rfl
@[simp] theorem State.modExch_counters (f : Exchange → Exchange) (s : State) : (s.modExch f).counters = s.counters := rfl
@[simp] theorem State.modExch_waiting (f : Exchange → Exchange) (s : State) : (s.modExch f).waiting = s.waiting := rfl
@[simp] theorem State.modExch_agenda (f : Exchange → Exchange) (s : State) : (s.modExch f).agenda = s.agenda := rfl

/-! ## modMover -/

@[simp] theorem State.modMover_pending (f : Mover → Mover) (s : State) : (s.modMover f).pending = s.pending := rfl
@[simp] theorem State.modMover_clock (f : Mover → Mover) (s : State) : (s.modMover f).clock = s.clock := rfl
@[simp] theorem State.modMover_exch (f : Mover → Mover) (s : State) : (s.modMover f).exch = s.exch := rfl
@[simp] theorem State.modMover_mover (f : Mover → Mover) (s : State) : (s.modMover f).mover = f s.mover := rfl
@[simp] theorem State.modMover_orders (f : Mover → Mover) (s : State) : (s.modMover f).orders = s.orders := rfl
@[simp] theorem State.modMover_products (f : Mover → Mover) (s : State) : (s.modMover f).products = s.products := rfl
@[simp] theorem State.modMover_useCounts (f : Mover → Mover) (s : State) : (s.modMover f).useCounts = s.useCounts := rfl
@[simp] theorem State.modMover_priceLoads (f : Mover → Mover) (s : State) : (s.modMover f).priceLoads = s.priceLoads := rfl
@[simp] theorem State.modMover_slots (f : Mover → Mover) (s : State) : (s.modMover f).slots = s.slots := rfl
@[simp] theorem State.modMover_sched (f : Mover → Mover) (s : State) : (s.modMover f).sched = s.sched := rfl
@[simp] theorem State.modMover_awaiting (f : Mover → Mover) (s : State) : (s.modMover f).awaiting = s.awaiting := rfl
@[simp] theorem State.modMover_ports (f : Mover → Mover) (s : State) : (s.modMover f).ports = s.ports := rfl
@[simp] theorem State.modMover_renderers (f : Mover → Mover) (s : State) : (s.modMover f).renderers = s.renderers := rfl
@[simp] theorem State.modMover_tones (f : Mover → Mover) (s : State) : (s.modMover f).tones = s.tones := rfl
@[simp] theorem State.modMover_toneLoads (f : Mover → Mover) (s : State) : (s.modMover f).toneLoads = s.toneLoads := rfl
@[simp] theorem State.modMover_tender (f : Mover → Mover) (s : State) : (s.modMover f).tender = s.tender := rfl
@[simp] theorem State.modMover_cash (f : Mover → Mover) (s : State) : (s.modMover f).cash = s.cash := rfl
@[simp] theorem State.modMover_counters (f : Mover → Mover) (s : State) : (s.modMover f).counters = s.counters := rfl
@[simp] theorem State.modMover_waiting (f : Mover → Mover) (s : State) : (s.modMover f).waiting = s.waiting := rfl
@[simp] theorem State.modMover_agenda (f : Mover → Mover) (s : State) : (s.modMover f).agenda = s.agenda := rfl

/-! ## modSlot -/

@[simp] theorem State.modSlot_pending (n : Fin 4) (f : Slot → Slot) (s : State) : (s.modSlot n f).pending = s.pending := rfl
@[simp] theorem State.modSlot_clock (n : Fin 4) (f : Slot → Slot) (s : State) : (s.modSlot n f).clock = s.clock := rfl
@[simp] theorem State.modSlot_exch (n : Fin 4) (f : Slot → Slot) (s : State) : (s.modSlot n f).exch = s.exch := rfl
@[simp] theorem State.modSlot_mover (n : Fin 4) (f : Slot → Slot) (s : State) : (s.modSlot n f).mover = s.mover := rfl
@[simp] theorem State.modSlot_orders (n : Fin 4) (f : Slot → Slot) (s : State) : (s.modSlot n f).orders = s.orders := rfl
@[simp] theorem State.modSlot_products (n : Fin 4) (f : Slot → Slot) (s : State) : (s.modSlot n f).products = s.products := rfl
@[simp] theorem State.modSlot_useCounts (n : Fin 4) (f : Slot → Slot) (s : State) : (s.modSlot n f).useCounts = s.useCounts := rfl
@[simp] theorem State.modSlot_priceLoads (n : Fin 4) (f : Slot → Slot) (s : State) : (s.modSlot n f).priceLoads = s.priceLoads := rfl
@[simp] theorem State.modSlot_slots (n : Fin 4) (f : Slot → Slot) (s : State) : (s.modSlot n f).slots = s.slots.set n (f (s.slots.get n)) := rfl
@[simp] theorem State.modSlot_sched (n : Fin 4) (f : Slot → Slot) (s : State) : (s.modSlot n f).sched = s.sched := rfl
@[simp] theorem State.modSlot_awaiting (n : Fin 4) (f : Slot → Slot) (s : State) : (s.modSlot n f).awaiting = s.awaiting := rfl
@[simp] theorem State.modSlot_ports (n : Fin 4) (f : Slot → Slot) (s : State) : (s.modSlot n f).ports = s.ports := rfl
@[simp] theorem State.modSlot_renderers (n : Fin 4) (f : Slot → Slot) (s : State) : (s.modSlot n f).renderers = s.renderers := rfl
@[simp] theorem State.modSlot_tones (n : Fin 4) (f : Slot → Slot) (s : State) : (s.modSlot n f).tones = s.tones := rfl
@[simp] theorem State.modSlot_toneLoads (n : Fin 4) (f : Slot → Slot) (s : State) : (s.modSlot n f).toneLoads = s.toneLoads := rfl
@[simp] theorem State.modSlot_tender (n : Fin 4) (f : Slot → Slot) (s : State) : (s.modSlot n f).tender = s.tender := rfl
@[simp] theorem State.modSlot_cash (n : Fin 4) (f : Slot → Slot) (s : State) : (s.modSlot n f).cash = s.cash := rfl
@[simp] theorem State.modSlot_counters (n : Fin 4) (f : Slot → Slot) (s : State) : (s.modSlot n f).counters = s.counters := rfl
@[simp] theorem State.modSlot_waiting (n : Fin 4) (f : Slot → Slot) (s : State) : (s.modSlot n f).waiting = s.waiting := rfl
@[simp] theorem State.modSlot_agenda (n : Fin 4) (f : Slot → Slot) (s : State) : (s.modSlot n f).agenda = s.agenda := rfl

/-! ## modSched -/

@[simp] theorem State.modSched_pending (e : Fin 2) (f : SchedEngine → SchedEngine) (s : State) : (s.modSched e f).pending = s.pending := rfl
@[simp] theorem State.modSched_clock (e : Fin 2) (f : SchedEngine → SchedEngine) (s : State) : (s.modSched e f).clock = s.clock := rfl
@[simp] theorem State.modSched_exch (e : Fin 2) (f : SchedEngine → SchedEngine) (s : State) : (s.modSched e f).exch = s.exch := rfl
@[simp] theorem State.modSched_mover (e : Fin 2) (f : SchedEngine → SchedEngine) (s : State) : (s.modSched e f).mover = s.mover := rfl
@[simp] theorem State.modSched_orders (e : Fin 2) (f : SchedEngine → SchedEngine) (s : State) : (s.modSched e f).orders = s.orders := rfl
@[simp] theorem State.modSched_products (e : Fin 2) (f : SchedEngine → SchedEngine) (s : State) : (s.modSched e f).products = s.products := rfl
@[simp] theorem State.modSched_useCounts (e : Fin 2) (f : SchedEngine → SchedEngine) (s : State) : (s.modSched e f).useCounts = s.useCounts := rfl
@[simp] theorem State.modSched_priceLoads (e : Fin 2) (f : SchedEngine → SchedEngine) (s : State) : (s.modSched e f).priceLoads = s.priceLoads := rfl
@[simp] theorem State.modSched_slots (e : Fin 2) (f : SchedEngine → SchedEngine) (s : State) : (s.modSched e f).slots = s.slots := rfl
@[simp] theorem State.modSched_sched (e : Fin 2) (f : SchedEngine → SchedEngine) (s : State) : (s.modSched e f).sched = s.sched.set e (f (s.sched.get e)) := rfl
@[simp] theorem State.modSched_awaiting (e : Fin 2) (f : SchedEngine → SchedEngine) (s : State) : (s.modSched e f).awaiting = s.awaiting := rfl
@[simp] theorem State.modSched_ports (e : Fin 2) (f : SchedEngine → SchedEngine) (s : State) : (s.modSched e f).ports = s.ports := rfl
@[simp] theorem State.modSched_renderers (e : Fin 2) (f : SchedEngine → SchedEngine) (s : State) : (s.modSched e f).renderers = s.renderers := rfl
@[simp] theorem State.modSched_tones (e : Fin 2) (f : SchedEngine → SchedEngine) (s : State) : (s.modSched e f).tones = s.tones := rfl
@[simp] theorem State.modSched_toneLoads (e : Fin 2) (f : SchedEngine → SchedEngine) (s : State) : (s.modSched e f).toneLoads = s.toneLoads := rfl
@[simp] theorem State.modSched_tender (e : Fin 2) (f : SchedEngine → SchedEngine) (s : State) : (s.modSched e f).tender = s.tender := rfl
@[simp] theorem State.modSched_cash (e : Fin 2) (f : SchedEngine → SchedEngine) (s : State) : (s.modSched e f).cash = s.cash := rfl
@[simp] theorem State.modSched_counters (e : Fin 2) (f : SchedEngine → SchedEngine) (s : State) : (s.modSched e f).counters = s.counters := rfl
@[simp] theorem State.modSched_waiting (e : Fin 2) (f : SchedEngine → SchedEngine) (s : State) : (s.modSched e f).waiting = s.waiting := rfl
@[simp] theorem State.modSched_agenda (e : Fin 2) (f : SchedEngine → SchedEngine) (s : State) : (s.modSched e f).agenda = s.agenda := rfl

/-! ## modPort -/

@[simp] theorem State.modPort_pending (e : Fin 2) (f : Port → Port) (s : State) : (s.modPort e f).pending = s.pending := rfl
@[simp] theorem State.modPort_clock (e : Fin 2) (f : Port → Port) (s : State) : (s.modPort e f).clock = s.clock := rfl
@[simp] theorem State.modPort_exch (e : Fin 2) (f : Port → Port) (s : State) : (s.modPort e f).exch = s.exch := rfl
@[simp] theorem State.modPort_mover (e : Fin 2) (f : Port → Port) (s : State) : (s.modPort e f).mover = s.mover := rfl
@[simp] theorem State.modPort_orders (e : Fin 2) (f : Port → Port) (s : State) : (s.modPort e f).orders = s.orders := rfl
@[simp] theorem State.modPort_products (e : Fin 2) (f : Port → Port) (s : State) : (s.modPort e f).products = s.products := rfl
@[simp] theorem State.modPort_useCounts (e : Fin 2) (f : Port → Port) (s : State) : (s.modPort e f).useCounts = s.useCounts := rfl
@[simp] theorem State.modPort_priceLoads (e : Fin 2) (f : Port → Port) (s : State) : (s.modPort e f).priceLoads = s.priceLoads := rfl
@[simp] theorem State.modPort_slots (e : Fin 2) (f : Port → Port) (s : State) : (s.modPort e f).slots = s.slots := rfl
@[simp] theorem State.modPort_sched (e : Fin 2) (f : Port → Port) (s : State) : (s.modPort e f).sched = s.sched := rfl
@[simp] theorem State.modPort_awaiting (e : Fin 2) (f : Port → Port) (s : State) : (s.modPort e f).awaiting = s.awaiting := rfl
@[simp] theorem State.modPort_ports (e : Fin 2) (f : Port → Port) (s : State) : (s.modPort e f).ports = s.ports.set e (f (s.ports.get e)) := rfl
@[simp] theorem State.modPort_renderers (e : Fin 2) (f : Port → Port) (s : State) : (s.modPort e f).renderers = s.renderers := rfl
@[simp] theorem State.modPort_tones (e : Fin 2) (f : Port → Port) (s : State) : (s.modPort e f).tones = s.tones := rfl
@[simp] theorem State.modPort_toneLoads (e : Fin 2) (f : Port → Port) (s : State) : (s.modPort e f).toneLoads = s.toneLoads := rfl
@[simp] theorem State.modPort_tender (e : Fin 2) (f : Port → Port) (s : State) : (s.modPort e f).tender = s.tender := rfl
@[simp] theorem State.modPort_cash (e : Fin 2) (f : Port → Port) (s : State) : (s.modPort e f).cash = s.cash := rfl
@[simp] theorem State.modPort_counters (e : Fin 2) (f : Port → Port) (s : State) : (s.modPort e f).counters = s.counters := rfl
@[simp] theorem State.modPort_waiting (e : Fin 2) (f : Port → Port) (s : State) : (s.modPort e f).waiting = s.waiting := rfl
@[simp] theorem State.modPort_agenda (e : Fin 2) (f : Port → Port) (s : State) : (s.modPort e f).agenda = s.agenda := rfl

/-! ## modRend -/

@[simp] theorem State.modRend_pending (e : Fin 2) (f : Renderer → Renderer) (s : State) : (s.modRend e f).pending = s.pending := rfl
@[simp] theorem State.modRend_clock (e : Fin 2) (f : Renderer → Renderer) (s : State) : (s.modRend e f).clock = s.clock := rfl
@[simp] theorem State.modRend_exch (e : Fin 2) (f : Renderer → Renderer) (s : State) : (s.modRend e f).exch = s.exch := rfl
@[simp] theorem State.modRend_mover (e : Fin 2) (f : Renderer → Renderer) (s : State) : (s.modRend e f).mover = s.mover := rfl
@[simp] theorem State.modRend_orders (e : Fin 2) (f : Renderer → Renderer) (s : State) : (s.modRend e f).orders = s.orders := rfl
@[simp] theorem State.modRend_products (e : Fin 2) (f : Renderer → Renderer) (s : State) : (s.modRend e f).products = s.products := rfl
@[simp] theorem State.modRend_useCounts (e : Fin 2) (f : Renderer → Renderer) (s : State) : (s.modRend e f).useCounts = s.useCounts := rfl
@[simp] theorem State.modRend_priceLoads (e : Fin 2) (f : Renderer → Renderer) (s : State) : (s.modRend e f).priceLoads = s.priceLoads := rfl
@[simp] theorem State.modRend_slots (e : Fin 2) (f : Renderer → Renderer) (s : State) : (s.modRend e f).slots = s.slots := rfl
@[simp] theorem State.modRend_sched (e : Fin 2) (f : Renderer → Renderer) (s : State) : (s.modRend e f).sched = s.sched := rfl
@[simp] theorem State.modRend_awaiting (e : Fin 2) (f : Renderer → Renderer) (s : State) : (s.modRend e f).awaiting = s.awaiting := rfl
@[simp] theorem State.modRend_ports (e : Fin 2) (f : Renderer → Renderer) (s : State) : (s.modRend e f).ports = s.ports := rfl
@[simp] theorem State.modRend_renderers (e : Fin 2) (f : Renderer → Renderer) (s : State) : (s.modRend e f).renderers = s.renderers.set e (f (s.renderers.get e)) := rfl
@[simp] theorem State.modRend_tones (e : Fin 2) (f : Renderer → Renderer) (s : State) : (s.modRend e f).tones = s.tones := rfl
@[simp] theorem State.modRend_toneLoads (e : Fin 2) (f : Renderer → Renderer) (s : State) : (s.modRend e f).toneLoads = s.toneLoads := rfl
@[simp] theorem State.modRend_tender (e : Fin 2) (f : Renderer → Renderer) (s : State) : (s.modRend e f).tender = s.tender := rfl
@[simp] theorem State.modRend_cash (e : Fin 2) (f : Renderer → Renderer) (s : State) : (s.modRend e f).cash = s.cash := rfl
@[simp] theorem State.modRend_counters (e : Fin 2) (f : Renderer → Renderer) (s : State) : (s.modRend e f).counters = s.counters := rfl
@[simp] theorem State.modRend_waiting (e : Fin 2) (f : Renderer → Renderer) (s : State) : (s.modRend e f).waiting = s.waiting := rfl
@[simp] theorem State.modRend_agenda (e : Fin 2) (f : Renderer → Renderer) (s : State) : (s.modRend e f).agenda = s.agenda := rfl

/-! ## modTender -/

@[simp] theorem State.modTender_pending (f : Tender → Tender) (s : State) : (s.modTender f).pending = s.pending := rfl
@[simp] theorem State.modTender_clock (f : Tender → Tender) (s : State) : (s.modTender f).clock = s.clock := rfl
@[simp] theorem State.modTender_exch (f : Tender → Tender) (s : State) : (s.modTender f).exch = s.exch := rfl
@[simp] theorem State.modTender_mover (f : Tender → Tender) (s : State) : (s.modTender f).mover = s.mover := rfl
@[simp] theorem State.modTender_orders (f : Tender → Tender) (s : State) : (s.modTender f).orders = s.orders := rfl
@[simp] theorem State.modTender_products (f : Tender → Tender) (s : State) : (s.modTender f).products = s.products := rfl
@[simp] theorem State.modTender_useCounts (f : Tender → Tender) (s : State) : (s.modTender f).useCounts = s.useCounts := rfl
@[simp] theorem State.modTender_priceLoads (f : Tender → Tender) (s : State) : (s.modTender f).priceLoads = s.priceLoads := rfl
@[simp] theorem State.modTender_slots (f : Tender → Tender) (s : State) : (s.modTender f).slots = s.slots := rfl
@[simp] theorem State.modTender_sched (f : Tender → Tender) (s : State) : (s.modTender f).sched = s.sched := rfl
@[simp] theorem State.modTender_awaiting (f : Tender → Tender) (s : State) : (s.modTender f).awaiting = s.awaiting := rfl
@[simp] theorem State.modTender_ports (f : Tender → Tender) (s : State) : (s.modTender f).ports = s.ports := rfl
@[simp] theorem State.modTender_renderers (f : Tender → Tender) (s : State) : (s.modTender f).renderers = s.renderers := rfl
@[simp] theorem State.modTender_tones (f : Tender → Tender) (s : State) : (s.modTender f).tones = s.tones := rfl
@[simp] theorem State.modTender_toneLoads (f : Tender → Tender) (s : State) : (s.modTender f).toneLoads = s.toneLoads := rfl
@[simp] theorem State.modTender_tender (f : Tender → Tender) (s : State) : (s.modTender f).tender = f s.tender := rfl
@[simp] theorem State.modTender_cash (f : Tender → Tender) (s : State) : (s.modTender f).cash = s.cash := rfl
@[simp] theorem State.modTender_counters (f : Tender → Tender) (s : State) : (s.modTender f).counters = s.counters := rfl
@[simp] theorem State.modTender_waiting (f : Tender → Tender) (s : State) : (s.modTender f).waiting = s.waiting := rfl
@[simp] theorem State.modTender_agenda (f : Tender → Tender) (s : State) : (s.modTender f).agenda = s.agenda := rfl

/-! ## modCounters -/

@[simp] theorem State.modCounters_pending (f : CounterBlock → CounterBlock) (s : State) : (s.modCounters f).pending = s.pending := rfl
@[simp] theorem State.modCounters_clock (f : CounterBlock → CounterBlock) (s : State) : (s.modCounters f).clock = s.clock := rfl
@[simp] theorem State.modCounters_exch (f : CounterBlock → CounterBlock) (s : State) : (s.modCounters f).exch = s.exch := rfl
@[simp] theorem State.modCounters_mover (f : CounterBlock → CounterBlock) (s : State) : (s.modCounters f).mover = s.mover := rfl
@[simp] theorem State.modCounters_orders (f : CounterBlock → CounterBlock) (s : State) : (s.modCounters f).orders = s.orders := rfl
@[simp] theorem State.modCounters_products (f : CounterBlock → CounterBlock) (s : State) : (s.modCounters f).products = s.products := rfl
@[simp] theorem State.modCounters_useCounts (f : CounterBlock → CounterBlock) (s : State) : (s.modCounters f).useCounts = s.useCounts := rfl
@[simp] theorem State.modCounters_priceLoads (f : CounterBlock → CounterBlock) (s : State) : (s.modCounters f).priceLoads = s.priceLoads := rfl
@[simp] theorem State.modCounters_slots (f : CounterBlock → CounterBlock) (s : State) : (s.modCounters f).slots = s.slots := rfl
@[simp] theorem State.modCounters_sched (f : CounterBlock → CounterBlock) (s : State) : (s.modCounters f).sched = s.sched := rfl
@[simp] theorem State.modCounters_awaiting (f : CounterBlock → CounterBlock) (s : State) : (s.modCounters f).awaiting = s.awaiting := rfl
@[simp] theorem State.modCounters_ports (f : CounterBlock → CounterBlock) (s : State) : (s.modCounters f).ports = s.ports := rfl
@[simp] theorem State.modCounters_renderers (f : CounterBlock → CounterBlock) (s : State) : (s.modCounters f).renderers = s.renderers := rfl
@[simp] theorem State.modCounters_tones (f : CounterBlock → CounterBlock) (s : State) : (s.modCounters f).tones = s.tones := rfl
@[simp] theorem State.modCounters_toneLoads (f : CounterBlock → CounterBlock) (s : State) : (s.modCounters f).toneLoads = s.toneLoads := rfl
@[simp] theorem State.modCounters_tender (f : CounterBlock → CounterBlock) (s : State) : (s.modCounters f).tender = s.tender := rfl
@[simp] theorem State.modCounters_cash (f : CounterBlock → CounterBlock) (s : State) : (s.modCounters f).cash = s.cash := rfl
@[simp] theorem State.modCounters_counters (f : CounterBlock → CounterBlock) (s : State) : (s.modCounters f).counters = f s.counters := rfl
@[simp] theorem State.modCounters_waiting (f : CounterBlock → CounterBlock) (s : State) : (s.modCounters f).waiting = s.waiting := rfl
@[simp] theorem State.modCounters_agenda (f : CounterBlock → CounterBlock) (s : State) : (s.modCounters f).agenda = s.agenda := rfl

/-! ## modCash -/

@[simp] theorem State.modCash_pending (f : Cash → Cash) (s : State) : (s.modCash f).pending = s.pending := rfl
@[simp] theorem State.modCash_clock (f : Cash → Cash) (s : State) : (s.modCash f).clock = s.clock := rfl
@[simp] theorem State.modCash_exch (f : Cash → Cash) (s : State) : (s.modCash f).exch = s.exch := rfl
@[simp] theorem State.modCash_mover (f : Cash → Cash) (s : State) : (s.modCash f).mover = s.mover := rfl
@[simp] theorem State.modCash_orders (f : Cash → Cash) (s : State) : (s.modCash f).orders = s.orders := rfl
@[simp] theorem State.modCash_products (f : Cash → Cash) (s : State) : (s.modCash f).products = s.products := rfl
@[simp] theorem State.modCash_useCounts (f : Cash → Cash) (s : State) : (s.modCash f).useCounts = s.useCounts := rfl
@[simp] theorem State.modCash_priceLoads (f : Cash → Cash) (s : State) : (s.modCash f).priceLoads = s.priceLoads := rfl
@[simp] theorem State.modCash_slots (f : Cash → Cash) (s : State) : (s.modCash f).slots = s.slots := rfl
@[simp] theorem State.modCash_sched (f : Cash → Cash) (s : State) : (s.modCash f).sched = s.sched := rfl
@[simp] theorem State.modCash_awaiting (f : Cash → Cash) (s : State) : (s.modCash f).awaiting = s.awaiting := rfl
@[simp] theorem State.modCash_ports (f : Cash → Cash) (s : State) : (s.modCash f).ports = s.ports := rfl
@[simp] theorem State.modCash_renderers (f : Cash → Cash) (s : State) : (s.modCash f).renderers = s.renderers := rfl
@[simp] theorem State.modCash_tones (f : Cash → Cash) (s : State) : (s.modCash f).tones = s.tones := rfl
@[simp] theorem State.modCash_toneLoads (f : Cash → Cash) (s : State) : (s.modCash f).toneLoads = s.toneLoads := rfl
@[simp] theorem State.modCash_tender (f : Cash → Cash) (s : State) : (s.modCash f).tender = s.tender := rfl
@[simp] theorem State.modCash_cash (f : Cash → Cash) (s : State) : (s.modCash f).cash = (f s.cash).setInhibit := rfl
@[simp] theorem State.modCash_counters (f : Cash → Cash) (s : State) : (s.modCash f).counters = s.counters := rfl
@[simp] theorem State.modCash_waiting (f : Cash → Cash) (s : State) : (s.modCash f).waiting = s.waiting := rfl
@[simp] theorem State.modCash_agenda (f : Cash → Cash) (s : State) : (s.modCash f).agenda = s.agenda := rfl

/-! ## modOrder -/

@[simp] theorem State.modOrder_pending (n : Nat) (f : Order → Order) (s : State) : (s.modOrder n f).pending = s.pending := rfl
@[simp] theorem State.modOrder_clock (n : Nat) (f : Order → Order) (s : State) : (s.modOrder n f).clock = s.clock := rfl
@[simp] theorem State.modOrder_exch (n : Nat) (f : Order → Order) (s : State) : (s.modOrder n f).exch = s.exch := rfl
@[simp] theorem State.modOrder_mover (n : Nat) (f : Order → Order) (s : State) : (s.modOrder n f).mover = s.mover := rfl
@[simp] theorem State.modOrder_orders (n : Nat) (f : Order → Order) (s : State) : (s.modOrder n f).orders = s.orders.map fun o => if o.number == n then f o else o := rfl
@[simp] theorem State.modOrder_products (n : Nat) (f : Order → Order) (s : State) : (s.modOrder n f).products = s.products := rfl
@[simp] theorem State.modOrder_useCounts (n : Nat) (f : Order → Order) (s : State) : (s.modOrder n f).useCounts = s.useCounts := rfl
@[simp] theorem State.modOrder_priceLoads (n : Nat) (f : Order → Order) (s : State) : (s.modOrder n f).priceLoads = s.priceLoads := rfl
@[simp] theorem State.modOrder_slots (n : Nat) (f : Order → Order) (s : State) : (s.modOrder n f).slots = s.slots := rfl
@[simp] theorem State.modOrder_sched (n : Nat) (f : Order → Order) (s : State) : (s.modOrder n f).sched = s.sched := rfl
@[simp] theorem State.modOrder_awaiting (n : Nat) (f : Order → Order) (s : State) : (s.modOrder n f).awaiting = s.awaiting := rfl
@[simp] theorem State.modOrder_ports (n : Nat) (f : Order → Order) (s : State) : (s.modOrder n f).ports = s.ports := rfl
@[simp] theorem State.modOrder_renderers (n : Nat) (f : Order → Order) (s : State) : (s.modOrder n f).renderers = s.renderers := rfl
@[simp] theorem State.modOrder_tones (n : Nat) (f : Order → Order) (s : State) : (s.modOrder n f).tones = s.tones := rfl
@[simp] theorem State.modOrder_toneLoads (n : Nat) (f : Order → Order) (s : State) : (s.modOrder n f).toneLoads = s.toneLoads := rfl
@[simp] theorem State.modOrder_tender (n : Nat) (f : Order → Order) (s : State) : (s.modOrder n f).tender = s.tender := rfl
@[simp] theorem State.modOrder_cash (n : Nat) (f : Order → Order) (s : State) : (s.modOrder n f).cash = s.cash := rfl
@[simp] theorem State.modOrder_counters (n : Nat) (f : Order → Order) (s : State) : (s.modOrder n f).counters = s.counters := rfl
@[simp] theorem State.modOrder_waiting (n : Nat) (f : Order → Order) (s : State) : (s.modOrder n f).waiting = s.waiting := rfl
@[simp] theorem State.modOrder_agenda (n : Nat) (f : Order → Order) (s : State) : (s.modOrder n f).agenda = s.agenda := rfl

/-! ## push -/

@[simp] theorem State.push_pending (a : Act) (s : State) : (s.push a).pending = s.pending := rfl
@[simp] theorem State.push_clock (a : Act) (s : State) : (s.push a).clock = s.clock := rfl
@[simp] theorem State.push_exch (a : Act) (s : State) : (s.push a).exch = s.exch := rfl
@[simp] theorem State.push_mover (a : Act) (s : State) : (s.push a).mover = s.mover := rfl
@[simp] theorem State.push_orders (a : Act) (s : State) : (s.push a).orders = s.orders := rfl
@[simp] theorem State.push_products (a : Act) (s : State) : (s.push a).products = s.products := rfl
@[simp] theorem State.push_useCounts (a : Act) (s : State) : (s.push a).useCounts = s.useCounts := rfl
@[simp] theorem State.push_priceLoads (a : Act) (s : State) : (s.push a).priceLoads = s.priceLoads := rfl
@[simp] theorem State.push_slots (a : Act) (s : State) : (s.push a).slots = s.slots := rfl
@[simp] theorem State.push_sched (a : Act) (s : State) : (s.push a).sched = s.sched := rfl
@[simp] theorem State.push_awaiting (a : Act) (s : State) : (s.push a).awaiting = s.awaiting := rfl
@[simp] theorem State.push_ports (a : Act) (s : State) : (s.push a).ports = s.ports := rfl
@[simp] theorem State.push_renderers (a : Act) (s : State) : (s.push a).renderers = s.renderers := rfl
@[simp] theorem State.push_tones (a : Act) (s : State) : (s.push a).tones = s.tones := rfl
@[simp] theorem State.push_toneLoads (a : Act) (s : State) : (s.push a).toneLoads = s.toneLoads := rfl
@[simp] theorem State.push_tender (a : Act) (s : State) : (s.push a).tender = s.tender := rfl
@[simp] theorem State.push_cash (a : Act) (s : State) : (s.push a).cash = s.cash := rfl
@[simp] theorem State.push_counters (a : Act) (s : State) : (s.push a).counters = s.counters := rfl
@[simp] theorem State.push_waiting (a : Act) (s : State) : (s.push a).waiting = s.waiting := rfl
@[simp] theorem State.push_agenda (a : Act) (s : State) : (s.push a).agenda = s.agenda ++ [⟨[], a⟩] := rfl

/-! ## request -/

@[simp] theorem State.request_pending (tag : ReqTag) (address length : Nat) (write : Option (List Byte)) (s : State) : (s.request tag address length write).pending = s.pending := rfl
@[simp] theorem State.request_clock (tag : ReqTag) (address length : Nat) (write : Option (List Byte)) (s : State) : (s.request tag address length write).clock = s.clock := rfl
@[simp] theorem State.request_exch (tag : ReqTag) (address length : Nat) (write : Option (List Byte)) (s : State) : (s.request tag address length write).exch = s.exch := rfl
@[simp] theorem State.request_mover (tag : ReqTag) (address length : Nat) (write : Option (List Byte)) (s : State) : (s.request tag address length write).mover = { s.mover with requests := s.mover.requests ++ [{ tag := tag, address := address, length := length, write := write }] } := rfl
@[simp] theorem State.request_orders (tag : ReqTag) (address length : Nat) (write : Option (List Byte)) (s : State) : (s.request tag address length write).orders = s.orders := rfl
@[simp] theorem State.request_products (tag : ReqTag) (address length : Nat) (write : Option (List Byte)) (s : State) : (s.request tag address length write).products = s.products := rfl
@[simp] theorem State.request_useCounts (tag : ReqTag) (address length : Nat) (write : Option (List Byte)) (s : State) : (s.request tag address length write).useCounts = s.useCounts := rfl
@[simp] theorem State.request_priceLoads (tag : ReqTag) (address length : Nat) (write : Option (List Byte)) (s : State) : (s.request tag address length write).priceLoads = s.priceLoads := rfl
@[simp] theorem State.request_slots (tag : ReqTag) (address length : Nat) (write : Option (List Byte)) (s : State) : (s.request tag address length write).slots = s.slots := rfl
@[simp] theorem State.request_sched (tag : ReqTag) (address length : Nat) (write : Option (List Byte)) (s : State) : (s.request tag address length write).sched = s.sched := rfl
@[simp] theorem State.request_awaiting (tag : ReqTag) (address length : Nat) (write : Option (List Byte)) (s : State) : (s.request tag address length write).awaiting = s.awaiting := rfl
@[simp] theorem State.request_ports (tag : ReqTag) (address length : Nat) (write : Option (List Byte)) (s : State) : (s.request tag address length write).ports = s.ports := rfl
@[simp] theorem State.request_renderers (tag : ReqTag) (address length : Nat) (write : Option (List Byte)) (s : State) : (s.request tag address length write).renderers = s.renderers := rfl
@[simp] theorem State.request_tones (tag : ReqTag) (address length : Nat) (write : Option (List Byte)) (s : State) : (s.request tag address length write).tones = s.tones := rfl
@[simp] theorem State.request_toneLoads (tag : ReqTag) (address length : Nat) (write : Option (List Byte)) (s : State) : (s.request tag address length write).toneLoads = s.toneLoads := rfl
@[simp] theorem State.request_tender (tag : ReqTag) (address length : Nat) (write : Option (List Byte)) (s : State) : (s.request tag address length write).tender = s.tender := rfl
@[simp] theorem State.request_cash (tag : ReqTag) (address length : Nat) (write : Option (List Byte)) (s : State) : (s.request tag address length write).cash = s.cash := rfl
@[simp] theorem State.request_counters (tag : ReqTag) (address length : Nat) (write : Option (List Byte)) (s : State) : (s.request tag address length write).counters = s.counters := rfl
@[simp] theorem State.request_waiting (tag : ReqTag) (address length : Nat) (write : Option (List Byte)) (s : State) : (s.request tag address length write).waiting = s.waiting := rfl
@[simp] theorem State.request_agenda (tag : ReqTag) (address length : Nat) (write : Option (List Byte)) (s : State) : (s.request tag address length write).agenda = s.agenda := rfl

/-! ## emit -/

@[simp] theorem State.emit_pending (p : Payload) (unit order seq : Nat) (s : State) : (s.emit p unit order seq).pending = s.pending := rfl
@[simp] theorem State.emit_clock (p : Payload) (unit order seq : Nat) (s : State) : (s.emit p unit order seq).clock = s.clock := rfl
@[simp] theorem State.emit_exch (p : Payload) (unit order seq : Nat) (s : State) : (s.emit p unit order seq).exch = { s.exch with outcomes := s.exch.outcomes ++ [{ payload := p, unit := unit, order := order, seq := seq, time := s.clock }] } := rfl
@[simp] theorem State.emit_mover (p : Payload) (unit order seq : Nat) (s : State) : (s.emit p unit order seq).mover = s.mover := rfl
@[simp] theorem State.emit_orders (p : Payload) (unit order seq : Nat) (s : State) : (s.emit p unit order seq).orders = s.orders := rfl
@[simp] theorem State.emit_products (p : Payload) (unit order seq : Nat) (s : State) : (s.emit p unit order seq).products = s.products := rfl
@[simp] theorem State.emit_useCounts (p : Payload) (unit order seq : Nat) (s : State) : (s.emit p unit order seq).useCounts = s.useCounts := rfl
@[simp] theorem State.emit_priceLoads (p : Payload) (unit order seq : Nat) (s : State) : (s.emit p unit order seq).priceLoads = s.priceLoads := rfl
@[simp] theorem State.emit_slots (p : Payload) (unit order seq : Nat) (s : State) : (s.emit p unit order seq).slots = s.slots := rfl
@[simp] theorem State.emit_sched (p : Payload) (unit order seq : Nat) (s : State) : (s.emit p unit order seq).sched = s.sched := rfl
@[simp] theorem State.emit_awaiting (p : Payload) (unit order seq : Nat) (s : State) : (s.emit p unit order seq).awaiting = s.awaiting := rfl
@[simp] theorem State.emit_ports (p : Payload) (unit order seq : Nat) (s : State) : (s.emit p unit order seq).ports = s.ports := rfl
@[simp] theorem State.emit_renderers (p : Payload) (unit order seq : Nat) (s : State) : (s.emit p unit order seq).renderers = s.renderers := rfl
@[simp] theorem State.emit_tones (p : Payload) (unit order seq : Nat) (s : State) : (s.emit p unit order seq).tones = s.tones := rfl
@[simp] theorem State.emit_toneLoads (p : Payload) (unit order seq : Nat) (s : State) : (s.emit p unit order seq).toneLoads = s.toneLoads := rfl
@[simp] theorem State.emit_tender (p : Payload) (unit order seq : Nat) (s : State) : (s.emit p unit order seq).tender = s.tender := rfl
@[simp] theorem State.emit_cash (p : Payload) (unit order seq : Nat) (s : State) : (s.emit p unit order seq).cash = s.cash := rfl
@[simp] theorem State.emit_counters (p : Payload) (unit order seq : Nat) (s : State) : (s.emit p unit order seq).counters = s.counters := rfl
@[simp] theorem State.emit_waiting (p : Payload) (unit order seq : Nat) (s : State) : (s.emit p unit order seq).waiting = s.waiting := rfl
@[simp] theorem State.emit_agenda (p : Payload) (unit order seq : Nat) (s : State) : (s.emit p unit order seq).agenda = s.agenda := rfl

/-! ## endTicket -/

@[simp] theorem State.endTicket_pending (t : Ticket) (kind : Nat) (code : ResultCode) (detail : Nat) (s : State) : (s.endTicket t kind code detail).pending = s.pending := rfl
@[simp] theorem State.endTicket_clock (t : Ticket) (kind : Nat) (code : ResultCode) (detail : Nat) (s : State) : (s.endTicket t kind code detail).clock = s.clock := rfl
@[simp] theorem State.endTicket_exch (t : Ticket) (kind : Nat) (code : ResultCode) (detail : Nat) (s : State) : (s.endTicket t kind code detail).exch = { s.exch with completions := s.exch.completions ++ [{ ticket := t, kind := kind, code := code, detail := detail }] } := rfl
@[simp] theorem State.endTicket_mover (t : Ticket) (kind : Nat) (code : ResultCode) (detail : Nat) (s : State) : (s.endTicket t kind code detail).mover = s.mover := rfl
@[simp] theorem State.endTicket_orders (t : Ticket) (kind : Nat) (code : ResultCode) (detail : Nat) (s : State) : (s.endTicket t kind code detail).orders = s.orders := rfl
@[simp] theorem State.endTicket_products (t : Ticket) (kind : Nat) (code : ResultCode) (detail : Nat) (s : State) : (s.endTicket t kind code detail).products = s.products := rfl
@[simp] theorem State.endTicket_useCounts (t : Ticket) (kind : Nat) (code : ResultCode) (detail : Nat) (s : State) : (s.endTicket t kind code detail).useCounts = s.useCounts := rfl
@[simp] theorem State.endTicket_priceLoads (t : Ticket) (kind : Nat) (code : ResultCode) (detail : Nat) (s : State) : (s.endTicket t kind code detail).priceLoads = s.priceLoads := rfl
@[simp] theorem State.endTicket_slots (t : Ticket) (kind : Nat) (code : ResultCode) (detail : Nat) (s : State) : (s.endTicket t kind code detail).slots = s.slots := rfl
@[simp] theorem State.endTicket_sched (t : Ticket) (kind : Nat) (code : ResultCode) (detail : Nat) (s : State) : (s.endTicket t kind code detail).sched = s.sched := rfl
@[simp] theorem State.endTicket_awaiting (t : Ticket) (kind : Nat) (code : ResultCode) (detail : Nat) (s : State) : (s.endTicket t kind code detail).awaiting = s.awaiting := rfl
@[simp] theorem State.endTicket_ports (t : Ticket) (kind : Nat) (code : ResultCode) (detail : Nat) (s : State) : (s.endTicket t kind code detail).ports = s.ports := rfl
@[simp] theorem State.endTicket_renderers (t : Ticket) (kind : Nat) (code : ResultCode) (detail : Nat) (s : State) : (s.endTicket t kind code detail).renderers = s.renderers := rfl
@[simp] theorem State.endTicket_tones (t : Ticket) (kind : Nat) (code : ResultCode) (detail : Nat) (s : State) : (s.endTicket t kind code detail).tones = s.tones := rfl
@[simp] theorem State.endTicket_toneLoads (t : Ticket) (kind : Nat) (code : ResultCode) (detail : Nat) (s : State) : (s.endTicket t kind code detail).toneLoads = s.toneLoads := rfl
@[simp] theorem State.endTicket_tender (t : Ticket) (kind : Nat) (code : ResultCode) (detail : Nat) (s : State) : (s.endTicket t kind code detail).tender = s.tender := rfl
@[simp] theorem State.endTicket_cash (t : Ticket) (kind : Nat) (code : ResultCode) (detail : Nat) (s : State) : (s.endTicket t kind code detail).cash = s.cash := rfl
@[simp] theorem State.endTicket_counters (t : Ticket) (kind : Nat) (code : ResultCode) (detail : Nat) (s : State) : (s.endTicket t kind code detail).counters = s.counters := rfl
@[simp] theorem State.endTicket_waiting (t : Ticket) (kind : Nat) (code : ResultCode) (detail : Nat) (s : State) : (s.endTicket t kind code detail).waiting = s.waiting := rfl
@[simp] theorem State.endTicket_agenda (t : Ticket) (kind : Nat) (code : ResultCode) (detail : Nat) (s : State) : (s.endTicket t kind code detail).agenda = s.agenda := rfl

/-! ## attend -/

@[simp] theorem State.attend_pending (a : Attn) (s : State) : (s.attend a).pending = s.pending := rfl
@[simp] theorem State.attend_clock (a : Attn) (s : State) : (s.attend a).clock = s.clock := rfl
@[simp] theorem State.attend_exch (a : Attn) (s : State) : (s.attend a).exch = s.exch.latch a := rfl
@[simp] theorem State.attend_mover (a : Attn) (s : State) : (s.attend a).mover = s.mover := rfl
@[simp] theorem State.attend_orders (a : Attn) (s : State) : (s.attend a).orders = s.orders := rfl
@[simp] theorem State.attend_products (a : Attn) (s : State) : (s.attend a).products = s.products := rfl
@[simp] theorem State.attend_useCounts (a : Attn) (s : State) : (s.attend a).useCounts = s.useCounts := rfl
@[simp] theorem State.attend_priceLoads (a : Attn) (s : State) : (s.attend a).priceLoads = s.priceLoads := rfl
@[simp] theorem State.attend_slots (a : Attn) (s : State) : (s.attend a).slots = s.slots := rfl
@[simp] theorem State.attend_sched (a : Attn) (s : State) : (s.attend a).sched = s.sched := rfl
@[simp] theorem State.attend_awaiting (a : Attn) (s : State) : (s.attend a).awaiting = s.awaiting := rfl
@[simp] theorem State.attend_ports (a : Attn) (s : State) : (s.attend a).ports = s.ports := rfl
@[simp] theorem State.attend_renderers (a : Attn) (s : State) : (s.attend a).renderers = s.renderers := rfl
@[simp] theorem State.attend_tones (a : Attn) (s : State) : (s.attend a).tones = s.tones := rfl
@[simp] theorem State.attend_toneLoads (a : Attn) (s : State) : (s.attend a).toneLoads = s.toneLoads := rfl
@[simp] theorem State.attend_tender (a : Attn) (s : State) : (s.attend a).tender = s.tender := rfl
@[simp] theorem State.attend_cash (a : Attn) (s : State) : (s.attend a).cash = s.cash := rfl
@[simp] theorem State.attend_counters (a : Attn) (s : State) : (s.attend a).counters = s.counters := rfl
@[simp] theorem State.attend_waiting (a : Attn) (s : State) : (s.attend a).waiting = s.waiting := rfl
@[simp] theorem State.attend_agenda (a : Attn) (s : State) : (s.attend a).agenda = s.agenda := rfl

/-! ## touch -/

@[simp] theorem State.touch_pending (n : Nat) (s : State) : (s.touch n).pending = s.pending := rfl
@[simp] theorem State.touch_clock (n : Nat) (s : State) : (s.touch n).clock = s.clock := rfl
@[simp] theorem State.touch_exch (n : Nat) (s : State) : (s.touch n).exch = s.exch := rfl
@[simp] theorem State.touch_mover (n : Nat) (s : State) : (s.touch n).mover = s.mover := rfl
@[simp] theorem State.touch_orders (n : Nat) (s : State) : (s.touch n).orders = s.orders.map fun o => if o.number == n then { o with lastActivity := s.clock } else o := rfl
@[simp] theorem State.touch_products (n : Nat) (s : State) : (s.touch n).products = s.products := rfl
@[simp] theorem State.touch_useCounts (n : Nat) (s : State) : (s.touch n).useCounts = s.useCounts := rfl
@[simp] theorem State.touch_priceLoads (n : Nat) (s : State) : (s.touch n).priceLoads = s.priceLoads := rfl
@[simp] theorem State.touch_slots (n : Nat) (s : State) : (s.touch n).slots = s.slots := rfl
@[simp] theorem State.touch_sched (n : Nat) (s : State) : (s.touch n).sched = s.sched := rfl
@[simp] theorem State.touch_awaiting (n : Nat) (s : State) : (s.touch n).awaiting = s.awaiting := rfl
@[simp] theorem State.touch_ports (n : Nat) (s : State) : (s.touch n).ports = s.ports := rfl
@[simp] theorem State.touch_renderers (n : Nat) (s : State) : (s.touch n).renderers = s.renderers := rfl
@[simp] theorem State.touch_tones (n : Nat) (s : State) : (s.touch n).tones = s.tones := rfl
@[simp] theorem State.touch_toneLoads (n : Nat) (s : State) : (s.touch n).toneLoads = s.toneLoads := rfl
@[simp] theorem State.touch_tender (n : Nat) (s : State) : (s.touch n).tender = s.tender := rfl
@[simp] theorem State.touch_cash (n : Nat) (s : State) : (s.touch n).cash = s.cash := rfl
@[simp] theorem State.touch_counters (n : Nat) (s : State) : (s.touch n).counters = s.counters := rfl
@[simp] theorem State.touch_waiting (n : Nat) (s : State) : (s.touch n).waiting = s.waiting := rfl
@[simp] theorem State.touch_agenda (n : Nat) (s : State) : (s.touch n).agenda = s.agenda := rfl

/-! ## touchAtTake -/

@[simp] theorem State.touchAtTake_pending (n : Nat) (s : State) : (s.touchAtTake n).pending = s.pending := rfl
@[simp] theorem State.touchAtTake_clock (n : Nat) (s : State) : (s.touchAtTake n).clock = s.clock := rfl
@[simp] theorem State.touchAtTake_exch (n : Nat) (s : State) : (s.touchAtTake n).exch = s.exch := rfl
@[simp] theorem State.touchAtTake_mover (n : Nat) (s : State) : (s.touchAtTake n).mover = s.mover := rfl
@[simp] theorem State.touchAtTake_orders (n : Nat) (s : State) : (s.touchAtTake n).orders = s.orders.map fun o => if o.number == n then { o with lastActivity := s.clock } else o := rfl
@[simp] theorem State.touchAtTake_products (n : Nat) (s : State) : (s.touchAtTake n).products = s.products := rfl
@[simp] theorem State.touchAtTake_useCounts (n : Nat) (s : State) : (s.touchAtTake n).useCounts = s.useCounts := rfl
@[simp] theorem State.touchAtTake_priceLoads (n : Nat) (s : State) : (s.touchAtTake n).priceLoads = s.priceLoads := rfl
@[simp] theorem State.touchAtTake_slots (n : Nat) (s : State) : (s.touchAtTake n).slots = s.slots := rfl
@[simp] theorem State.touchAtTake_sched (n : Nat) (s : State) : (s.touchAtTake n).sched = s.sched := rfl
@[simp] theorem State.touchAtTake_awaiting (n : Nat) (s : State) : (s.touchAtTake n).awaiting = s.awaiting := rfl
@[simp] theorem State.touchAtTake_ports (n : Nat) (s : State) : (s.touchAtTake n).ports = s.ports := rfl
@[simp] theorem State.touchAtTake_renderers (n : Nat) (s : State) : (s.touchAtTake n).renderers = s.renderers := rfl
@[simp] theorem State.touchAtTake_tones (n : Nat) (s : State) : (s.touchAtTake n).tones = s.tones := rfl
@[simp] theorem State.touchAtTake_toneLoads (n : Nat) (s : State) : (s.touchAtTake n).toneLoads = s.toneLoads := rfl
@[simp] theorem State.touchAtTake_tender (n : Nat) (s : State) : (s.touchAtTake n).tender = s.tender := rfl
@[simp] theorem State.touchAtTake_cash (n : Nat) (s : State) : (s.touchAtTake n).cash = s.cash := rfl
@[simp] theorem State.touchAtTake_counters (n : Nat) (s : State) : (s.touchAtTake n).counters = s.counters := rfl
@[simp] theorem State.touchAtTake_waiting (n : Nat) (s : State) : (s.touchAtTake n).waiting = s.waiting.filter fun j => j.act != .cmd (.abandonExpiry n) := rfl
@[simp] theorem State.touchAtTake_agenda (n : Nat) (s : State) : (s.touchAtTake n).agenda = s.agenda := rfl

/-! ## dropAwaiting -/

@[simp] theorem State.dropAwaiting_pending (n : Nat) (s : State) : (s.dropAwaiting n).pending = s.pending := rfl
@[simp] theorem State.dropAwaiting_clock (n : Nat) (s : State) : (s.dropAwaiting n).clock = s.clock := rfl
@[simp] theorem State.dropAwaiting_exch (n : Nat) (s : State) : (s.dropAwaiting n).exch = s.exch := rfl
@[simp] theorem State.dropAwaiting_mover (n : Nat) (s : State) : (s.dropAwaiting n).mover = s.mover := rfl
@[simp] theorem State.dropAwaiting_orders (n : Nat) (s : State) : (s.dropAwaiting n).orders = s.orders := rfl
@[simp] theorem State.dropAwaiting_products (n : Nat) (s : State) : (s.dropAwaiting n).products = s.products := rfl
@[simp] theorem State.dropAwaiting_useCounts (n : Nat) (s : State) : (s.dropAwaiting n).useCounts = s.useCounts := rfl
@[simp] theorem State.dropAwaiting_priceLoads (n : Nat) (s : State) : (s.dropAwaiting n).priceLoads = s.priceLoads := rfl
@[simp] theorem State.dropAwaiting_slots (n : Nat) (s : State) : (s.dropAwaiting n).slots = s.slots := rfl
@[simp] theorem State.dropAwaiting_sched (n : Nat) (s : State) : (s.dropAwaiting n).sched = s.sched := rfl
@[simp] theorem State.dropAwaiting_awaiting (n : Nat) (s : State) : (s.dropAwaiting n).awaiting = s.awaiting.filter (· != n) := rfl
@[simp] theorem State.dropAwaiting_ports (n : Nat) (s : State) : (s.dropAwaiting n).ports = s.ports := rfl
@[simp] theorem State.dropAwaiting_renderers (n : Nat) (s : State) : (s.dropAwaiting n).renderers = s.renderers := rfl
@[simp] theorem State.dropAwaiting_tones (n : Nat) (s : State) : (s.dropAwaiting n).tones = s.tones := rfl
@[simp] theorem State.dropAwaiting_toneLoads (n : Nat) (s : State) : (s.dropAwaiting n).toneLoads = s.toneLoads := rfl
@[simp] theorem State.dropAwaiting_tender (n : Nat) (s : State) : (s.dropAwaiting n).tender = s.tender := rfl
@[simp] theorem State.dropAwaiting_cash (n : Nat) (s : State) : (s.dropAwaiting n).cash = s.cash := rfl
@[simp] theorem State.dropAwaiting_counters (n : Nat) (s : State) : (s.dropAwaiting n).counters = s.counters := rfl
@[simp] theorem State.dropAwaiting_waiting (n : Nat) (s : State) : (s.dropAwaiting n).waiting = s.waiting := rfl
@[simp] theorem State.dropAwaiting_agenda (n : Nat) (s : State) : (s.dropAwaiting n).agenda = s.agenda := rfl

/-! ## enqueueTender -/

@[simp] theorem State.enqueueTender_pending (t : TenderEntry) (s : State) : (s.enqueueTender t).pending = s.pending := rfl
@[simp] theorem State.enqueueTender_clock (t : TenderEntry) (s : State) : (s.enqueueTender t).clock = s.clock := rfl
@[simp] theorem State.enqueueTender_exch (t : TenderEntry) (s : State) : (s.enqueueTender t).exch = s.exch := rfl
@[simp] theorem State.enqueueTender_mover (t : TenderEntry) (s : State) : (s.enqueueTender t).mover = s.mover := rfl
@[simp] theorem State.enqueueTender_orders (t : TenderEntry) (s : State) : (s.enqueueTender t).orders = s.orders := rfl
@[simp] theorem State.enqueueTender_products (t : TenderEntry) (s : State) : (s.enqueueTender t).products = s.products := rfl
@[simp] theorem State.enqueueTender_useCounts (t : TenderEntry) (s : State) : (s.enqueueTender t).useCounts = s.useCounts := rfl
@[simp] theorem State.enqueueTender_priceLoads (t : TenderEntry) (s : State) : (s.enqueueTender t).priceLoads = s.priceLoads := rfl
@[simp] theorem State.enqueueTender_slots (t : TenderEntry) (s : State) : (s.enqueueTender t).slots = s.slots := rfl
@[simp] theorem State.enqueueTender_sched (t : TenderEntry) (s : State) : (s.enqueueTender t).sched = s.sched := rfl
@[simp] theorem State.enqueueTender_awaiting (t : TenderEntry) (s : State) : (s.enqueueTender t).awaiting = s.awaiting := rfl
@[simp] theorem State.enqueueTender_ports (t : TenderEntry) (s : State) : (s.enqueueTender t).ports = s.ports := rfl
@[simp] theorem State.enqueueTender_renderers (t : TenderEntry) (s : State) : (s.enqueueTender t).renderers = s.renderers := rfl
@[simp] theorem State.enqueueTender_tones (t : TenderEntry) (s : State) : (s.enqueueTender t).tones = s.tones := rfl
@[simp] theorem State.enqueueTender_toneLoads (t : TenderEntry) (s : State) : (s.enqueueTender t).toneLoads = s.toneLoads := rfl
@[simp] theorem State.enqueueTender_tender (t : TenderEntry) (s : State) : (s.enqueueTender t).tender = { s.tender with requests := s.tender.requests ++ [t] } := rfl
@[simp] theorem State.enqueueTender_cash (t : TenderEntry) (s : State) : (s.enqueueTender t).cash = s.cash := rfl
@[simp] theorem State.enqueueTender_counters (t : TenderEntry) (s : State) : (s.enqueueTender t).counters = s.counters := rfl
@[simp] theorem State.enqueueTender_waiting (t : TenderEntry) (s : State) : (s.enqueueTender t).waiting = s.waiting := rfl
@[simp] theorem State.enqueueTender_agenda (t : TenderEntry) (s : State) : (s.enqueueTender t).agenda = s.agenda := rfl

/-! ## attendIf -/

@[simp] theorem State.attendIf_pending (c : Bool) (a : Attn) (s : State) : (s.attendIf c a).pending = s.pending := by
  simp only [State.attendIf]; split <;> rfl
@[simp] theorem State.attendIf_clock (c : Bool) (a : Attn) (s : State) : (s.attendIf c a).clock = s.clock := by
  simp only [State.attendIf]; split <;> rfl
@[simp] theorem State.attendIf_mover (c : Bool) (a : Attn) (s : State) : (s.attendIf c a).mover = s.mover := by
  simp only [State.attendIf]; split <;> rfl
@[simp] theorem State.attendIf_orders (c : Bool) (a : Attn) (s : State) : (s.attendIf c a).orders = s.orders := by
  simp only [State.attendIf]; split <;> rfl
@[simp] theorem State.attendIf_products (c : Bool) (a : Attn) (s : State) : (s.attendIf c a).products = s.products := by
  simp only [State.attendIf]; split <;> rfl
@[simp] theorem State.attendIf_useCounts (c : Bool) (a : Attn) (s : State) : (s.attendIf c a).useCounts = s.useCounts := by
  simp only [State.attendIf]; split <;> rfl
@[simp] theorem State.attendIf_priceLoads (c : Bool) (a : Attn) (s : State) : (s.attendIf c a).priceLoads = s.priceLoads := by
  simp only [State.attendIf]; split <;> rfl
@[simp] theorem State.attendIf_slots (c : Bool) (a : Attn) (s : State) : (s.attendIf c a).slots = s.slots := by
  simp only [State.attendIf]; split <;> rfl
@[simp] theorem State.attendIf_sched (c : Bool) (a : Attn) (s : State) : (s.attendIf c a).sched = s.sched := by
  simp only [State.attendIf]; split <;> rfl
@[simp] theorem State.attendIf_awaiting (c : Bool) (a : Attn) (s : State) : (s.attendIf c a).awaiting = s.awaiting := by
  simp only [State.attendIf]; split <;> rfl
@[simp] theorem State.attendIf_ports (c : Bool) (a : Attn) (s : State) : (s.attendIf c a).ports = s.ports := by
  simp only [State.attendIf]; split <;> rfl
@[simp] theorem State.attendIf_renderers (c : Bool) (a : Attn) (s : State) : (s.attendIf c a).renderers = s.renderers := by
  simp only [State.attendIf]; split <;> rfl
@[simp] theorem State.attendIf_tones (c : Bool) (a : Attn) (s : State) : (s.attendIf c a).tones = s.tones := by
  simp only [State.attendIf]; split <;> rfl
@[simp] theorem State.attendIf_toneLoads (c : Bool) (a : Attn) (s : State) : (s.attendIf c a).toneLoads = s.toneLoads := by
  simp only [State.attendIf]; split <;> rfl
@[simp] theorem State.attendIf_tender (c : Bool) (a : Attn) (s : State) : (s.attendIf c a).tender = s.tender := by
  simp only [State.attendIf]; split <;> rfl
@[simp] theorem State.attendIf_cash (c : Bool) (a : Attn) (s : State) : (s.attendIf c a).cash = s.cash := by
  simp only [State.attendIf]; split <;> rfl
@[simp] theorem State.attendIf_counters (c : Bool) (a : Attn) (s : State) : (s.attendIf c a).counters = s.counters := by
  simp only [State.attendIf]; split <;> rfl
@[simp] theorem State.attendIf_waiting (c : Bool) (a : Attn) (s : State) : (s.attendIf c a).waiting = s.waiting := by
  simp only [State.attendIf]; split <;> rfl
@[simp] theorem State.attendIf_agenda (c : Bool) (a : Attn) (s : State) : (s.attendIf c a).agenda = s.agenda := by
  simp only [State.attendIf]; split <;> rfl

/-! ## count -/

@[simp] theorem State.count_pending (id : CounterId) (n : Nat) (s : State) : (s.count id n).pending = s.pending := by
  simp only [State.count]; split <;> rfl
@[simp] theorem State.count_clock (id : CounterId) (n : Nat) (s : State) : (s.count id n).clock = s.clock := by
  simp only [State.count]; split <;> rfl
@[simp] theorem State.count_mover (id : CounterId) (n : Nat) (s : State) : (s.count id n).mover = s.mover := by
  simp only [State.count]; split <;> rfl
@[simp] theorem State.count_orders (id : CounterId) (n : Nat) (s : State) : (s.count id n).orders = s.orders := by
  simp only [State.count]; split <;> rfl
@[simp] theorem State.count_products (id : CounterId) (n : Nat) (s : State) : (s.count id n).products = s.products := by
  simp only [State.count]; split <;> rfl
@[simp] theorem State.count_useCounts (id : CounterId) (n : Nat) (s : State) : (s.count id n).useCounts = s.useCounts := by
  simp only [State.count]; split <;> rfl
@[simp] theorem State.count_priceLoads (id : CounterId) (n : Nat) (s : State) : (s.count id n).priceLoads = s.priceLoads := by
  simp only [State.count]; split <;> rfl
@[simp] theorem State.count_slots (id : CounterId) (n : Nat) (s : State) : (s.count id n).slots = s.slots := by
  simp only [State.count]; split <;> rfl
@[simp] theorem State.count_sched (id : CounterId) (n : Nat) (s : State) : (s.count id n).sched = s.sched := by
  simp only [State.count]; split <;> rfl
@[simp] theorem State.count_awaiting (id : CounterId) (n : Nat) (s : State) : (s.count id n).awaiting = s.awaiting := by
  simp only [State.count]; split <;> rfl
@[simp] theorem State.count_ports (id : CounterId) (n : Nat) (s : State) : (s.count id n).ports = s.ports := by
  simp only [State.count]; split <;> rfl
@[simp] theorem State.count_renderers (id : CounterId) (n : Nat) (s : State) : (s.count id n).renderers = s.renderers := by
  simp only [State.count]; split <;> rfl
@[simp] theorem State.count_tones (id : CounterId) (n : Nat) (s : State) : (s.count id n).tones = s.tones := by
  simp only [State.count]; split <;> rfl
@[simp] theorem State.count_toneLoads (id : CounterId) (n : Nat) (s : State) : (s.count id n).toneLoads = s.toneLoads := by
  simp only [State.count]; split <;> rfl
@[simp] theorem State.count_tender (id : CounterId) (n : Nat) (s : State) : (s.count id n).tender = s.tender := by
  simp only [State.count]; split <;> rfl
@[simp] theorem State.count_cash (id : CounterId) (n : Nat) (s : State) : (s.count id n).cash = s.cash := by
  simp only [State.count]; split <;> rfl
@[simp] theorem State.count_waiting (id : CounterId) (n : Nat) (s : State) : (s.count id n).waiting = s.waiting := by
  simp only [State.count]; split <;> rfl
@[simp] theorem State.count_agenda (id : CounterId) (n : Nat) (s : State) : (s.count id n).agenda = s.agenda := by
  simp only [State.count]; split <;> rfl

/-! ## acceptOpen -/

@[simp] theorem State.acceptOpen_pending (t : Ticket) (s : State) : (s.acceptOpen t).pending = s.pending := by
  simp only [State.acceptOpen]; split <;> rfl
@[simp] theorem State.acceptOpen_clock (t : Ticket) (s : State) : (s.acceptOpen t).clock = s.clock := by
  simp only [State.acceptOpen]; split <;> rfl
@[simp] theorem State.acceptOpen_mover (t : Ticket) (s : State) : (s.acceptOpen t).mover = s.mover := by
  simp only [State.acceptOpen]; split <;> rfl
@[simp] theorem State.acceptOpen_orders (t : Ticket) (s : State) : (s.acceptOpen t).orders = s.orders := by
  simp only [State.acceptOpen]; split <;> rfl
@[simp] theorem State.acceptOpen_products (t : Ticket) (s : State) : (s.acceptOpen t).products = s.products := by
  simp only [State.acceptOpen]; split <;> rfl
@[simp] theorem State.acceptOpen_useCounts (t : Ticket) (s : State) : (s.acceptOpen t).useCounts = s.useCounts := by
  simp only [State.acceptOpen]; split <;> rfl
@[simp] theorem State.acceptOpen_priceLoads (t : Ticket) (s : State) : (s.acceptOpen t).priceLoads = s.priceLoads := by
  simp only [State.acceptOpen]; split <;> rfl
@[simp] theorem State.acceptOpen_slots (t : Ticket) (s : State) : (s.acceptOpen t).slots = s.slots := by
  simp only [State.acceptOpen]; split <;> rfl
@[simp] theorem State.acceptOpen_sched (t : Ticket) (s : State) : (s.acceptOpen t).sched = s.sched := by
  simp only [State.acceptOpen]; split <;> rfl
@[simp] theorem State.acceptOpen_awaiting (t : Ticket) (s : State) : (s.acceptOpen t).awaiting = s.awaiting := by
  simp only [State.acceptOpen]; split <;> rfl
@[simp] theorem State.acceptOpen_ports (t : Ticket) (s : State) : (s.acceptOpen t).ports = s.ports := by
  simp only [State.acceptOpen]; split <;> rfl
@[simp] theorem State.acceptOpen_renderers (t : Ticket) (s : State) : (s.acceptOpen t).renderers = s.renderers := by
  simp only [State.acceptOpen]; split <;> rfl
@[simp] theorem State.acceptOpen_tones (t : Ticket) (s : State) : (s.acceptOpen t).tones = s.tones := by
  simp only [State.acceptOpen]; split <;> rfl
@[simp] theorem State.acceptOpen_toneLoads (t : Ticket) (s : State) : (s.acceptOpen t).toneLoads = s.toneLoads := by
  simp only [State.acceptOpen]; split <;> rfl
@[simp] theorem State.acceptOpen_tender (t : Ticket) (s : State) : (s.acceptOpen t).tender = s.tender := by
  simp only [State.acceptOpen]; split <;> rfl
@[simp] theorem State.acceptOpen_cash (t : Ticket) (s : State) : (s.acceptOpen t).cash = s.cash := by
  simp only [State.acceptOpen]; split <;> rfl
@[simp] theorem State.acceptOpen_counters (t : Ticket) (s : State) : (s.acceptOpen t).counters = s.counters := by
  simp only [State.acceptOpen]; split <;> rfl
@[simp] theorem State.acceptOpen_waiting (t : Ticket) (s : State) : (s.acceptOpen t).waiting = s.waiting := by
  simp only [State.acceptOpen]; split <;> rfl
@[simp] theorem State.acceptOpen_agenda (t : Ticket) (s : State) : (s.acceptOpen t).agenda = s.agenda := by
  simp only [State.acceptOpen]; split <;> rfl

/-! ## accept -/

@[simp] theorem State.accept_pending (t : Ticket) (s : State) : (s.accept t).pending = s.pending := by
  simp only [State.accept]; split <;> simp
@[simp] theorem State.accept_clock (t : Ticket) (s : State) : (s.accept t).clock = s.clock := by
  simp only [State.accept]; split <;> simp
@[simp] theorem State.accept_mover (t : Ticket) (s : State) : (s.accept t).mover = s.mover := by
  simp only [State.accept]; split <;> simp
@[simp] theorem State.accept_products (t : Ticket) (s : State) : (s.accept t).products = s.products := by
  simp only [State.accept]; split <;> simp
@[simp] theorem State.accept_useCounts (t : Ticket) (s : State) : (s.accept t).useCounts = s.useCounts := by
  simp only [State.accept]; split <;> simp
@[simp] theorem State.accept_priceLoads (t : Ticket) (s : State) : (s.accept t).priceLoads = s.priceLoads := by
  simp only [State.accept]; split <;> simp
@[simp] theorem State.accept_slots (t : Ticket) (s : State) : (s.accept t).slots = s.slots := by
  simp only [State.accept]; split <;> simp
@[simp] theorem State.accept_sched (t : Ticket) (s : State) : (s.accept t).sched = s.sched := by
  simp only [State.accept]; split <;> simp
@[simp] theorem State.accept_awaiting (t : Ticket) (s : State) : (s.accept t).awaiting = s.awaiting := by
  simp only [State.accept]; split <;> simp
@[simp] theorem State.accept_ports (t : Ticket) (s : State) : (s.accept t).ports = s.ports := by
  simp only [State.accept]; split <;> simp
@[simp] theorem State.accept_renderers (t : Ticket) (s : State) : (s.accept t).renderers = s.renderers := by
  simp only [State.accept]; split <;> simp
@[simp] theorem State.accept_tones (t : Ticket) (s : State) : (s.accept t).tones = s.tones := by
  simp only [State.accept]; split <;> simp
@[simp] theorem State.accept_toneLoads (t : Ticket) (s : State) : (s.accept t).toneLoads = s.toneLoads := by
  simp only [State.accept]; split <;> simp
@[simp] theorem State.accept_tender (t : Ticket) (s : State) : (s.accept t).tender = s.tender := by
  simp only [State.accept]; split <;> simp
@[simp] theorem State.accept_cash (t : Ticket) (s : State) : (s.accept t).cash = s.cash := by
  simp only [State.accept]; split <;> simp
@[simp] theorem State.accept_counters (t : Ticket) (s : State) : (s.accept t).counters = s.counters := by
  simp only [State.accept]; split <;> simp
@[simp] theorem State.accept_agenda (t : Ticket) (s : State) : (s.accept t).agenda = s.agenda := by
  simp only [State.accept]; split <;> simp

/-! ## The record of a number, the settings, the region and the places after an update of something else -/

@[simp] theorem State.modExch_findOrder (f : Exchange → Exchange) (s : State) (m : Nat) : (s.modExch f).findOrder m = s.findOrder m := rfl
@[simp] theorem State.modMover_findOrder (f : Mover → Mover) (s : State) (m : Nat) : (s.modMover f).findOrder m = s.findOrder m := rfl
@[simp] theorem State.modMover_settings (f : Mover → Mover) (s : State) : (s.modMover f).settings = s.settings := rfl
@[simp] theorem State.modMover_exchBase (f : Mover → Mover) (s : State) : (s.modMover f).exchBase = s.exchBase := rfl
@[simp] theorem State.modMover_occupied (f : Mover → Mover) (s : State) : (s.modMover f).occupied = s.occupied := rfl
@[simp] theorem State.modSlot_findOrder (n : Fin 4) (f : Slot → Slot) (s : State) (m : Nat) : (s.modSlot n f).findOrder m = s.findOrder m := rfl
@[simp] theorem State.modSlot_settings (n : Fin 4) (f : Slot → Slot) (s : State) : (s.modSlot n f).settings = s.settings := rfl
@[simp] theorem State.modSlot_exchBase (n : Fin 4) (f : Slot → Slot) (s : State) : (s.modSlot n f).exchBase = s.exchBase := rfl
@[simp] theorem State.modSlot_occupied (n : Fin 4) (f : Slot → Slot) (s : State) : (s.modSlot n f).occupied = s.occupied := rfl
@[simp] theorem State.modSched_findOrder (e : Fin 2) (f : SchedEngine → SchedEngine) (s : State) (m : Nat) : (s.modSched e f).findOrder m = s.findOrder m := rfl
@[simp] theorem State.modSched_settings (e : Fin 2) (f : SchedEngine → SchedEngine) (s : State) : (s.modSched e f).settings = s.settings := rfl
@[simp] theorem State.modSched_exchBase (e : Fin 2) (f : SchedEngine → SchedEngine) (s : State) : (s.modSched e f).exchBase = s.exchBase := rfl
@[simp] theorem State.modSched_occupied (e : Fin 2) (f : SchedEngine → SchedEngine) (s : State) : (s.modSched e f).occupied = s.occupied := rfl
@[simp] theorem State.modPort_findOrder (e : Fin 2) (f : Port → Port) (s : State) (m : Nat) : (s.modPort e f).findOrder m = s.findOrder m := rfl
@[simp] theorem State.modPort_settings (e : Fin 2) (f : Port → Port) (s : State) : (s.modPort e f).settings = s.settings := rfl
@[simp] theorem State.modPort_exchBase (e : Fin 2) (f : Port → Port) (s : State) : (s.modPort e f).exchBase = s.exchBase := rfl
@[simp] theorem State.modPort_occupied (e : Fin 2) (f : Port → Port) (s : State) : (s.modPort e f).occupied = s.occupied := rfl
@[simp] theorem State.modRend_findOrder (e : Fin 2) (f : Renderer → Renderer) (s : State) (m : Nat) : (s.modRend e f).findOrder m = s.findOrder m := rfl
@[simp] theorem State.modRend_settings (e : Fin 2) (f : Renderer → Renderer) (s : State) : (s.modRend e f).settings = s.settings := rfl
@[simp] theorem State.modRend_exchBase (e : Fin 2) (f : Renderer → Renderer) (s : State) : (s.modRend e f).exchBase = s.exchBase := rfl
@[simp] theorem State.modRend_occupied (e : Fin 2) (f : Renderer → Renderer) (s : State) : (s.modRend e f).occupied = s.occupied := rfl
@[simp] theorem State.modTender_findOrder (f : Tender → Tender) (s : State) (m : Nat) : (s.modTender f).findOrder m = s.findOrder m := rfl
@[simp] theorem State.modTender_settings (f : Tender → Tender) (s : State) : (s.modTender f).settings = s.settings := rfl
@[simp] theorem State.modTender_exchBase (f : Tender → Tender) (s : State) : (s.modTender f).exchBase = s.exchBase := rfl
@[simp] theorem State.modTender_occupied (f : Tender → Tender) (s : State) : (s.modTender f).occupied = s.occupied := rfl
@[simp] theorem State.modCounters_findOrder (f : CounterBlock → CounterBlock) (s : State) (m : Nat) : (s.modCounters f).findOrder m = s.findOrder m := rfl
@[simp] theorem State.modCounters_settings (f : CounterBlock → CounterBlock) (s : State) : (s.modCounters f).settings = s.settings := rfl
@[simp] theorem State.modCounters_exchBase (f : CounterBlock → CounterBlock) (s : State) : (s.modCounters f).exchBase = s.exchBase := rfl
@[simp] theorem State.modCounters_occupied (f : CounterBlock → CounterBlock) (s : State) : (s.modCounters f).occupied = s.occupied := rfl
@[simp] theorem State.modCash_findOrder (f : Cash → Cash) (s : State) (m : Nat) : (s.modCash f).findOrder m = s.findOrder m := rfl
@[simp] theorem State.modCash_settings (f : Cash → Cash) (s : State) : (s.modCash f).settings = s.settings := rfl
@[simp] theorem State.modCash_exchBase (f : Cash → Cash) (s : State) : (s.modCash f).exchBase = s.exchBase := rfl
@[simp] theorem State.modCash_occupied (f : Cash → Cash) (s : State) : (s.modCash f).occupied = s.occupied := rfl
@[simp] theorem State.modOrder_settings (n : Nat) (f : Order → Order) (s : State) : (s.modOrder n f).settings = s.settings := rfl
@[simp] theorem State.modOrder_exchBase (n : Nat) (f : Order → Order) (s : State) : (s.modOrder n f).exchBase = s.exchBase := rfl
@[simp] theorem State.modOrder_occupied (n : Nat) (f : Order → Order) (s : State) : (s.modOrder n f).occupied = s.occupied := rfl
@[simp] theorem State.push_findOrder (a : Act) (s : State) (m : Nat) : (s.push a).findOrder m = s.findOrder m := rfl
@[simp] theorem State.push_settings (a : Act) (s : State) : (s.push a).settings = s.settings := rfl
@[simp] theorem State.push_exchBase (a : Act) (s : State) : (s.push a).exchBase = s.exchBase := rfl
@[simp] theorem State.push_occupied (a : Act) (s : State) : (s.push a).occupied = s.occupied := rfl
@[simp] theorem State.request_findOrder (tag : ReqTag) (address length : Nat) (write : Option (List Byte)) (s : State) (m : Nat) : (s.request tag address length write).findOrder m = s.findOrder m := rfl
@[simp] theorem State.request_settings (tag : ReqTag) (address length : Nat) (write : Option (List Byte)) (s : State) : (s.request tag address length write).settings = s.settings := rfl
@[simp] theorem State.request_exchBase (tag : ReqTag) (address length : Nat) (write : Option (List Byte)) (s : State) : (s.request tag address length write).exchBase = s.exchBase := rfl
@[simp] theorem State.request_occupied (tag : ReqTag) (address length : Nat) (write : Option (List Byte)) (s : State) : (s.request tag address length write).occupied = s.occupied := rfl
@[simp] theorem State.emit_findOrder (p : Payload) (unit order seq : Nat) (s : State) (m : Nat) : (s.emit p unit order seq).findOrder m = s.findOrder m := rfl
@[simp] theorem State.endTicket_findOrder (t : Ticket) (kind : Nat) (code : ResultCode) (detail : Nat) (s : State) (m : Nat) : (s.endTicket t kind code detail).findOrder m = s.findOrder m := rfl
@[simp] theorem State.attend_findOrder (a : Attn) (s : State) (m : Nat) : (s.attend a).findOrder m = s.findOrder m := rfl
@[simp] theorem State.touch_settings (n : Nat) (s : State) : (s.touch n).settings = s.settings := rfl
@[simp] theorem State.touch_exchBase (n : Nat) (s : State) : (s.touch n).exchBase = s.exchBase := rfl
@[simp] theorem State.touch_occupied (n : Nat) (s : State) : (s.touch n).occupied = s.occupied := rfl
@[simp] theorem State.touchAtTake_settings (n : Nat) (s : State) : (s.touchAtTake n).settings = s.settings := rfl
@[simp] theorem State.touchAtTake_exchBase (n : Nat) (s : State) : (s.touchAtTake n).exchBase = s.exchBase := rfl
@[simp] theorem State.touchAtTake_occupied (n : Nat) (s : State) : (s.touchAtTake n).occupied = s.occupied := rfl
@[simp] theorem State.dropAwaiting_findOrder (n : Nat) (s : State) (m : Nat) : (s.dropAwaiting n).findOrder m = s.findOrder m := rfl
@[simp] theorem State.dropAwaiting_settings (n : Nat) (s : State) : (s.dropAwaiting n).settings = s.settings := rfl
@[simp] theorem State.dropAwaiting_exchBase (n : Nat) (s : State) : (s.dropAwaiting n).exchBase = s.exchBase := rfl
@[simp] theorem State.dropAwaiting_occupied (n : Nat) (s : State) : (s.dropAwaiting n).occupied = s.occupied := rfl
@[simp] theorem State.enqueueTender_findOrder (t : TenderEntry) (s : State) (m : Nat) : (s.enqueueTender t).findOrder m = s.findOrder m := rfl
@[simp] theorem State.enqueueTender_settings (t : TenderEntry) (s : State) : (s.enqueueTender t).settings = s.settings := rfl
@[simp] theorem State.enqueueTender_exchBase (t : TenderEntry) (s : State) : (s.enqueueTender t).exchBase = s.exchBase := rfl
@[simp] theorem State.enqueueTender_occupied (t : TenderEntry) (s : State) : (s.enqueueTender t).occupied = s.occupied := rfl
@[simp] theorem State.emit_occupied (p : Payload) (unit order seq : Nat) (s : State) :
    (s.emit p unit order seq).occupied = s.occupied + 1 := by
  simp [State.occupied]; omega
@[simp] theorem State.endTicket_occupied (t : Ticket) (kind : Nat) (code : ResultCode) (detail : Nat) (s : State) :
    (s.endTicket t kind code detail).occupied = s.occupied := rfl
@[simp] theorem State.attend_occupied (a : Attn) (s : State) : (s.attend a).occupied = s.occupied := rfl
@[simp] theorem State.attendIf_occupied (c : Bool) (a : Attn) (s : State) : (s.attendIf c a).occupied = s.occupied := by
  cases c <;> rfl
@[simp] theorem State.count_occupied (id : CounterId) (n : Nat) (s : State) : (s.count id n).occupied = s.occupied := by
  simp only [State.count]; split <;> rfl
@[simp] theorem State.attend_busMaster (a : Attn) (s : State) : (s.attend a).exch.busMaster = s.exch.busMaster := rfl
@[simp] theorem State.attendIf_busMaster (c : Bool) (a : Attn) (s : State) :
    (s.attendIf c a).exch.busMaster = s.exch.busMaster := by
  cases c <;> rfl
@[simp] theorem State.count_busMaster (id : CounterId) (n : Nat) (s : State) :
    (s.count id n).exch.busMaster = s.exch.busMaster := by
  simp only [State.count]; split <;> rfl

/-! ## pushAll -/

@[simp] theorem State.pushAll_pending (l : List Act) (s : State) : (s.pushAll l).pending = s.pending := by
  induction l generalizing s with
  | nil => rfl
  | cons a l ih => simpa [State.pushAll] using ih (s.push a)
@[simp] theorem State.pushAll_clock (l : List Act) (s : State) : (s.pushAll l).clock = s.clock := by
  induction l generalizing s with
  | nil => rfl
  | cons a l ih => simpa [State.pushAll] using ih (s.push a)
@[simp] theorem State.pushAll_exch (l : List Act) (s : State) : (s.pushAll l).exch = s.exch := by
  induction l generalizing s with
  | nil => rfl
  | cons a l ih => simpa [State.pushAll] using ih (s.push a)
@[simp] theorem State.pushAll_mover (l : List Act) (s : State) : (s.pushAll l).mover = s.mover := by
  induction l generalizing s with
  | nil => rfl
  | cons a l ih => simpa [State.pushAll] using ih (s.push a)
@[simp] theorem State.pushAll_orders (l : List Act) (s : State) : (s.pushAll l).orders = s.orders := by
  induction l generalizing s with
  | nil => rfl
  | cons a l ih => simpa [State.pushAll] using ih (s.push a)
@[simp] theorem State.pushAll_products (l : List Act) (s : State) : (s.pushAll l).products = s.products := by
  induction l generalizing s with
  | nil => rfl
  | cons a l ih => simpa [State.pushAll] using ih (s.push a)
@[simp] theorem State.pushAll_useCounts (l : List Act) (s : State) : (s.pushAll l).useCounts = s.useCounts := by
  induction l generalizing s with
  | nil => rfl
  | cons a l ih => simpa [State.pushAll] using ih (s.push a)
@[simp] theorem State.pushAll_priceLoads (l : List Act) (s : State) : (s.pushAll l).priceLoads = s.priceLoads := by
  induction l generalizing s with
  | nil => rfl
  | cons a l ih => simpa [State.pushAll] using ih (s.push a)
@[simp] theorem State.pushAll_slots (l : List Act) (s : State) : (s.pushAll l).slots = s.slots := by
  induction l generalizing s with
  | nil => rfl
  | cons a l ih => simpa [State.pushAll] using ih (s.push a)
@[simp] theorem State.pushAll_sched (l : List Act) (s : State) : (s.pushAll l).sched = s.sched := by
  induction l generalizing s with
  | nil => rfl
  | cons a l ih => simpa [State.pushAll] using ih (s.push a)
@[simp] theorem State.pushAll_awaiting (l : List Act) (s : State) : (s.pushAll l).awaiting = s.awaiting := by
  induction l generalizing s with
  | nil => rfl
  | cons a l ih => simpa [State.pushAll] using ih (s.push a)
@[simp] theorem State.pushAll_ports (l : List Act) (s : State) : (s.pushAll l).ports = s.ports := by
  induction l generalizing s with
  | nil => rfl
  | cons a l ih => simpa [State.pushAll] using ih (s.push a)
@[simp] theorem State.pushAll_renderers (l : List Act) (s : State) : (s.pushAll l).renderers = s.renderers := by
  induction l generalizing s with
  | nil => rfl
  | cons a l ih => simpa [State.pushAll] using ih (s.push a)
@[simp] theorem State.pushAll_tones (l : List Act) (s : State) : (s.pushAll l).tones = s.tones := by
  induction l generalizing s with
  | nil => rfl
  | cons a l ih => simpa [State.pushAll] using ih (s.push a)
@[simp] theorem State.pushAll_toneLoads (l : List Act) (s : State) : (s.pushAll l).toneLoads = s.toneLoads := by
  induction l generalizing s with
  | nil => rfl
  | cons a l ih => simpa [State.pushAll] using ih (s.push a)
@[simp] theorem State.pushAll_tender (l : List Act) (s : State) : (s.pushAll l).tender = s.tender := by
  induction l generalizing s with
  | nil => rfl
  | cons a l ih => simpa [State.pushAll] using ih (s.push a)
@[simp] theorem State.pushAll_cash (l : List Act) (s : State) : (s.pushAll l).cash = s.cash := by
  induction l generalizing s with
  | nil => rfl
  | cons a l ih => simpa [State.pushAll] using ih (s.push a)
@[simp] theorem State.pushAll_counters (l : List Act) (s : State) : (s.pushAll l).counters = s.counters := by
  induction l generalizing s with
  | nil => rfl
  | cons a l ih => simpa [State.pushAll] using ih (s.push a)
@[simp] theorem State.pushAll_waiting (l : List Act) (s : State) : (s.pushAll l).waiting = s.waiting := by
  induction l generalizing s with
  | nil => rfl
  | cons a l ih => simpa [State.pushAll] using ih (s.push a)
@[simp] theorem State.pushAll_agenda (l : List Act) (s : State) :
    (s.pushAll l).agenda = s.agenda ++ l.map (Job.mk []) := by
  induction l generalizing s with
  | nil => simp [State.pushAll]
  | cons a l ih => simp [State.pushAll, ih]

/-! ## unheld -/

@[simp] theorem SchedEngine.unheld_active (x : SchedEngine) : x.unheld.active = x.active := rfl
@[simp] theorem SchedEngine.unheld_queue (x : SchedEngine) : x.unheld.queue = x.queue := rfl
@[simp] theorem SchedEngine.unheld_stack (x : SchedEngine) : x.unheld.stack = x.stack := rfl
@[simp] theorem SchedEngine.unheld_access (x : SchedEngine) : x.unheld.access = x.access := rfl
@[simp] theorem SchedEngine.unheld_heldDecision (x : SchedEngine) : x.unheld.heldDecision = false := rfl
@[simp] theorem SchedEngine.unheld_heldTest (x : SchedEngine) : x.unheld.heldTest = false := rfl
@[simp] theorem SchedEngine.unheld_heldArrival (x : SchedEngine) : x.unheld.heldArrival = false := rfl

end Sys2Proof.Machine
end

