-- ==== Sys2Proof/Laws/Card.lean ====
section
/-! SUPPORT. What the slot's checks of a CARD_READ can answer at its take and when its turn comes (R56, R174). -/

namespace Sys2Proof.Machine

/-- A read handed on ends or goes on as the slot's checks made of it at its take, whatever the slot is now. -/
theorem State.readVerdict_handed {s : State} {t : Ticket} {h : Handed} {c : ReadCheck}
    (found : s.exch.handed.find? (fun h => h.header.ticket == t) = some h) (kept : h.read = some c) (slot item : Nat) (es : List Extent) :
    s.readVerdict t slot item es = c := by
  simp [State.readVerdict, found, kept]

/-- A read that has not been handed on is checked as the slot stands. -/
theorem State.readVerdict_here {s : State} {t : Ticket} (h : s.handedOn t = false) (slot item : Nat) (es : List Extent) :
    s.readVerdict t slot item es = s.readCheck t.order slot item es := by
  have none : s.exch.handed.find? (fun h => h.header.ticket == t) = none := by
    simpa [State.handedOn, List.find?_eq_none] using h
  simp [State.readVerdict, none]

/-- The slot's checks answer one of the refusals of R56, or a slot that is READY or READING with no removal declared. -/
theorem State.readCheck_cases (s : State) (order slot item : Nat) (es : List Extent) :
    (∃ d, d ∈ [1, 2, 3, 4] ∧ s.readCheck order slot item es = .refused .badField d)
    ∨ (∃ n, slotOf slot = some n ∧ s.readCheck order slot item es = .refused .cardAbsent (s.slots.get n).state.code)
    ∨ (∃ k, s.readCheck order slot item es = .refused .badExtent k)
    ∨ (∃ n, slotOf slot = some n ∧ s.readCheck order slot item es = .passed n
        ∧ ((s.slots.get n).state = .ready ∨ (s.slots.get n).state = .reading) ∧ (s.slots.get n).removalWaits = false) := by
  simp only [State.readCheck]
  split
  · exact .inl ⟨1, by simp, rfl⟩
  next n hn =>
    split_ifs with h2 h3 h4 h5
    · exact .inl ⟨2, by simp, rfl⟩
    · exact .inl ⟨3, by simp, rfl⟩
    · exact .inl ⟨4, by simp, rfl⟩
    · exact .inr (.inl ⟨n, hn, rfl⟩)
    · split
      next k _ => exact .inr (.inr (.inl ⟨k, rfl⟩))
      · refine .inr (.inr (.inr ⟨n, hn, rfl, ?_⟩))
        simpa [Classical.or_iff_not_imp_left] using h5

end Sys2Proof.Machine
end

