-- ==== Sys2Proof/Laws/Cash.lean ====
section
/-! SUPPORT. What the check of the PAY_CASH_BIND tickets that waited can do at the end of an application (R161). -/

namespace Sys2Proof.Machine

/-- With no ticket waiting the check changes nothing. -/
theorem State.checkBinds_none {s : State} (h : s.cash.bindWaiting = []) : s.checkBinds = s := by
  have unchanged : { s with cash := { s.cash with bindWaiting := [] } } = s := by rw [← h]
  simp only [State.checkBinds, unchanged, h, List.map_nil, State.pushAll, ite_self]

/-- Before the list has emptied the check changes nothing. -/
theorem State.checkBinds_listed {s : State} (h : s.cash.list ≠ []) : s.checkBinds = s := by simp [State.checkBinds, h]

/-- Once the list has emptied, every ticket that waited is asked for, in the order in which they waited, behind what is in course, and none waits. -/
theorem State.checkBinds_emptied {s : State} (h : s.cash.list = []) :
    s.checkBinds = { s with
      cash := { s.cash with bindWaiting := [] }
      agenda := s.agenda ++ s.cash.bindWaiting.map fun t => ⟨[], .cmd (.payCashBind t)⟩ } := by
  have pushed : ∀ (l : List Ticket) (v : State),
      v.pushAll (l.map fun t => .cmd (.payCashBind t)) = { v with agenda := v.agenda ++ l.map fun t => ⟨[], .cmd (.payCashBind t)⟩ } := by
    intro l
    induction l with
    | nil => intro v; simp [State.pushAll]
    | cons t l ih => intro v; simp [State.pushAll, State.push, ih]
  simp [State.checkBinds, h, pushed]

/-- An application that checks the waiting tickets leaves all but the tickets that wait and the requests in course. -/
theorem State.checkBinds_still (s : State) :
    s.checkBinds.still = { s with cash := s.checkBinds.cash }.still ∧ s.checkBinds.cash = { s.cash with bindWaiting := s.checkBinds.cash.bindWaiting } := by
  by_cases h : s.cash.list = []
  · simp [State.checkBinds_emptied h, State.still]
  · simp [State.checkBinds_listed h]

end Sys2Proof.Machine
end

