-- ==== Sys2Proof/Laws/Orders.lean ====
section
/-! SUPPORT. Reaching an order record after an update (R1), and a ticket's arrival at its block (R14, R173). -/

namespace Sys2Proof.Machine

/-! ## The live record of a number -/

/-- The live record of a number depends on the order table alone. -/
theorem State.findOrder_congr {s t : State} (h : t.orders = s.orders) (n : Nat) : t.findOrder n = s.findOrder n := by
  simp [State.findOrder, h]

theorem State.findOrder_number {s : State} {n : Nat} {o : Order} (h : s.findOrder n = some o) : o.number = n := by
  simpa using List.find?_some h

theorem State.findOrder_mem {s : State} {n : Nat} {o : Order} (h : s.findOrder n = some o) : o ∈ s.orders :=
  List.mem_of_find?_eq_some h

theorem find?_map_number (l : List Order) (n m : Nat) (f : Order → Order) (hf : ∀ o, (f o).number = o.number) :
    (l.map fun o => if o.number == m then f o else o).find? (fun o => o.number == n)
      = (l.find? fun o => o.number == n).map fun o => if o.number == m then f o else o := by
  induction l with
  | nil => rfl
  | cons a l ih =>
    by_cases hm : a.number = m <;> by_cases hn : a.number = n <;> simp_all

/-- Changing the record of a number changes what is found under that number, and nothing under another. -/
theorem State.findOrder_modOrder (s : State) (n m : Nat) (f : Order → Order) (hf : ∀ o, (f o).number = o.number) :
    (s.modOrder m f).findOrder n = (s.findOrder n).map fun o => if o.number == m then f o else o :=
  find?_map_number s.orders n m f hf

/-- The record changed is found changed. -/
theorem State.findOrder_modOrder_self {s : State} {n : Nat} {o : Order} (f : Order → Order) (hf : ∀ o, (f o).number = o.number)
    (h : s.findOrder n = some o) : (s.modOrder n f).findOrder n = some (f o) := by
  simp [State.findOrder_modOrder s n n f hf, h, State.findOrder_number h]

theorem State.findOrder_modOrder_none {s : State} {n m : Nat} (f : Order → Order) (hf : ∀ o, (f o).number = o.number)
    (h : s.findOrder n = none) : (s.modOrder m f).findOrder n = none := by
  simp [State.findOrder_modOrder s n m f hf, h]

/-- Two changes of one record are one change. -/
theorem State.modOrder_modOrder (s : State) (n : Nat) (f g : Order → Order) (hf : ∀ o, (f o).number = o.number) :
    (s.modOrder n f).modOrder n g = s.modOrder n fun o => g (f o) := by
  simp only [State.modOrder, List.map_map]
  congr 1
  apply List.map_congr_left
  intro o _
  by_cases h : o.number = n <;> simp [h, hf]

/-! ## A ticket at its block -/

/-- A ticket that the part takes reaches its block, and its step follows. -/
theorem State.taking_of_takes {s : State} {t : Ticket} (h : s.takes t) (step : State → State) : s.taking t step = step (s.accept t) := by
  have : s.leavesTicket t = false := by
    rcases h with h | h
    · simp [State.leavesTicket, h]
    · simp [State.leavesTicket, h]
  simp [State.taking, this]

/-- A ticket that the part does not take changes nothing. -/
theorem State.taking_of_not_takes {s : State} {t : Ticket} (h : ¬ s.takes t) (step : State → State) : s.taking t step = s := by
  have : s.leavesTicket t = true := by
    revert h; unfold State.takes State.leavesTicket; cases s.exch.part <;> cases s.handedOn t <;> simp
  simp [State.taking, this]

/-- A ticket's arrival changes of the exchange controller its in-flight marks and the tickets handed on alone (R173). -/
theorem State.acceptOpen_exch (t : Ticket) (s : State) :
    (s.acceptOpen t).exch = { s.exch with inFlight := (s.acceptOpen t).exch.inFlight, handed := (s.acceptOpen t).exch.handed } := by
  unfold State.acceptOpen
  split <;> rfl

@[simp] theorem State.acceptOpen_occupied (t : Ticket) (s : State) : (s.acceptOpen t).occupied = s.occupied := by
  unfold State.acceptOpen; split <;> rfl

@[simp] theorem State.acceptOpen_settings (t : Ticket) (s : State) : (s.acceptOpen t).exch.settings = s.exch.settings := by
  rw [State.acceptOpen_exch]

@[simp] theorem State.acceptOpen_part (t : Ticket) (s : State) : (s.acceptOpen t).exch.part = s.exch.part := by rw [State.acceptOpen_exch]

@[simp] theorem State.acceptOpen_busMaster (t : Ticket) (s : State) : (s.acceptOpen t).exch.busMaster = s.exch.busMaster := by
  rw [State.acceptOpen_exch]

/-- A ticket of any kind changes the exchange controller as an ORDER_OPEN does. -/
@[simp] theorem State.accept_exch (t : Ticket) (s : State) : (s.accept t).exch = (s.acceptOpen t).exch := by
  unfold State.accept; split <;> rfl

@[simp] theorem State.accept_occupied (t : Ticket) (s : State) : (s.accept t).occupied = s.occupied := by
  unfold State.accept; split <;> simp

/-- A ticket's arrival changes of a record at most its last-activity time (R14). -/
theorem State.accept_orders (t : Ticket) (s : State) :
    (s.accept t).orders = s.orders
      ∨ (s.accept t).orders = s.orders.map fun o => if o.number == t.order then { o with lastActivity := s.clock } else o := by
  unfold State.accept
  split
  · exact .inl (s.acceptOpen_orders t)
  · refine .inr ?_
    rw [← s.acceptOpen_orders t, ← s.acceptOpen_clock t]
    rfl

/-- A ticket's arrival leaves an empty waiting line empty (R14). -/
theorem State.accept_waiting_nil {s : State} (t : Ticket) (h : s.waiting = []) : (s.accept t).waiting = [] := by
  unfold State.accept; split <;> simp [h]

/-- A calm part stays calm at a ticket's arrival. -/
theorem State.accept_calm {k : Nat} {s : State} (t : Ticket) (h : s.calm k) : (s.accept t).calm k :=
  ⟨⟨by simpa using h.1.1, by simpa using h.1.2⟩, State.accept_waiting_nil t h.2.1, by simpa using h.2.2⟩

theorem State.acceptOpen_calm {k : Nat} {s : State} (t : Ticket) (h : s.calm k) : (s.acceptOpen t).calm k :=
  ⟨⟨by simpa using h.1.1, by simpa using h.1.2⟩, by simpa using h.2.1, by simpa using h.2.2⟩

/-- The record of a live order is found at a ticket's arrival with at most another last-activity time. -/
theorem State.accept_findOrder {n : Nat} {o : Order} {s : State} (t : Ticket) (h : s.findOrder n = some o) :
    ∃ a, (s.accept t).findOrder n = some { o with lastActivity := a } := by
  rcases s.accept_orders t with h' | h'
  · exact ⟨o.lastActivity, by rw [State.findOrder_congr h', h]⟩
  · refine ⟨if o.number == t.order then s.clock else o.lastActivity, ?_⟩
    have hc : (s.accept t).findOrder n = (s.touch t.order).findOrder n := State.findOrder_congr (by rw [h']; rfl) n
    rw [hc, State.touch, State.findOrder_modOrder s n t.order (fun o => { o with lastActivity := s.clock }) (fun _ => rfl), h]
    by_cases hn : o.number = t.order <;> simp [hn]

theorem State.accept_findOrder_none {n : Nat} {s : State} (t : Ticket) (h : s.findOrder n = none) :
    (s.accept t).findOrder n = none := by
  rcases s.accept_orders t with h' | h'
  · rw [State.findOrder_congr h', h]
  · have hc : (s.accept t).findOrder n = (s.touch t.order).findOrder n := State.findOrder_congr (by rw [h']; rfl) n
    rw [hc]
    exact State.findOrder_modOrder_none (fun o => { o with lastActivity := s.clock }) (fun _ => rfl) h

end Sys2Proof.Machine
end

