-- ==== Sys2Proof/WellFormed.lean ====
section
/-! DEFINITION. Which commands a sender can send: every operand within the width that the spec's field for it has
(12_formats_and_pins.md), and a count or length that the event can have. exec is total all the same. -/

namespace Sys2Proof

/-- The header fields of a ticket slot: slots 0 to 63, two-byte sequence and order number (R169, 12.4). -/
def Ticket.wf (t : Ticket) : Bool :=
  decide (t.slot < 64) && decide (t.seq < 65536) && decide (t.order < 65536)

/-- One item description of the body (12.4): an 8-byte address and three bytes. -/
def ItemDesc.wf (d : ItemDesc) : Bool :=
  decide (d.address < Config.addressLimit) && decide (d.product < 256) && decide (d.copies < 256)
    && decide (d.preStaged < 256)

/-- One extent of the body (12.4): a 4-byte start block, a 2-byte count, an 8-byte destination. -/
def Extent.wf (x : Extent) : Bool :=
  decide (x.start < 4294967296) && decide (x.count < 65536) && decide (x.dest < Config.addressLimit)

/-- The checks on a command's operands. -/
def Instr.wf : Instr → Bool
  | .run | .stop | .softReset | .powerOnReset | .linkReset => true
  | .nudge _ | .attnCauseWrite _ | .attnEnableWrite _ | .exchBaseLowWrite _ | .exchBaseHighWrite _ => true
  -- R170: IDENT (00h), STATE (08h), or CONTROL (04h) with none of the three action codes
  | .registerWriteNoEffect offset value =>
      offset == 0 || offset == 8 || (offset == 4 && value != 1#32 && value != 2#32 && value != 3#32)
  | .scanTimerExpiry | .logLingerExpiry | .settingsApplied | .waitingProducerStep => true
  | .burstEnd (.done data) => decide (data.length ≤ 512)
  | .burstEnd .failed | .burstReadTimeout => true
  | .orderOpen t station cls profile finish =>
      t.wf && decide (station < 256) && decide (cls < 256) && decide (profile < 256) && decide (finish < 256)
  | .orderAddItems t items => t.wf && decide (items.length < 256) && items.all ItemDesc.wf
  | .orderQuote t | .orderCancel t | .payCard t | .payCashBind t | .payCashUnbind t => t.wf
  | .refreshSettings t | .readCounters t | .linkTestLoopOff t | .linkTestInsertError t => t.wf
  | .orderDropItem t item => t.wf && decide (item < 256)
  | .orderResolve t answer reference amount =>
      t.wf && decide (answer < 256) && decide (reference < Config.addressLimit) && decide (amount < 4294967296)
  | .abandonExpiry order => decide (order < 65536)
  | .loadPrices t address => t.wf && decide (address < Config.addressLimit)
  | .cardInsertion _ | .cardRemoval _ | .cardSettleEnd _ | .identifyTimeout _ | .blockTimeout _ => true
  | .identifyAnswer _ capacity check => decide (capacity < 4294967296) && decide (check < 65536)
  | .cardRead t slot item extents =>
      t.wf && decide (slot < 256) && decide (item < 256) && decide (extents.length < 256) && extents.all Extent.wf
  | .blockAnswer _ data check => data.length == 512 && decide (check < 65536)
  | .engineControlEvacuate t engine | .engineControlPause t engine => t.wf && decide (engine < 256)
  | .engineControlResume t engine | .engineControlReset t engine => t.wf && decide (engine < 256)
  | .mediaSet t engine kind sheets ribbons =>
      t.wf && decide (engine < 256) && decide (kind < 256) && decide (sheets < 65536) && decide (ribbons < 65536)
  | .engineProof t engine profile finish temp lines source dest =>
      t.wf && decide (engine < 256) && decide (profile < 256) && decide (finish < 256) && decide (temp < 256)
        && decide (lines < 65536) && decide (source < Config.addressLimit) && decide (dest < Config.addressLimit)
  | .loadTone t profile colour address =>
      t.wf && decide (profile < 256) && decide (colour < 256) && decide (address < Config.addressLimit)
  | .mechReady _ temp | .mechLineRequest _ temp | .mechEjectDone _ temp => decide (temp < 256)
  | .mechFault _ _ | .engineSilence _ | .printSilence _ | .printEndStep _ => true
  | .tenderFrameReceived _ => true
  | .receiveGapTimeout | .receiveQueueProcess | .linkSilence | .transmitGapElapsed => true
  | .transmitEnd | .responseExpiry | .queryExpiry => true
  | .linkTestLoopOn t mode => t.wf && decide (mode < 256)
  | .linkTestSend t count => t.wf && decide (count < 256)
  -- R159: a run that reaches 500 low samples never completes
  | .cashPulseCompleted length => decide (1 ≤ length) && decide (length ≤ 499)
  | .lineFaultSet | .lineFaultCleared | .cashFaultApplied | .cashBindApplied | .settleWindowExpiry => true
  | .cashCreditApplied | .cashStrayApplied | .windowEndApplied => true
  | .reportTimerExpiry | .counterReport | .busMasterEnableChange _ => true

end Sys2Proof
end

