-- ==== Sys2Proof/Laws/PerInstr.lean ====
section
/-! SUPPORT. A statement about every command as syntax, with one lemma per constructor: the ticket of a well-formed command names one of the 64
slots of the ticket table, and its sequence and order number fit their two bytes (R169, 12.4). -/

namespace Sys2Proof.Laws

/-- The ticket a command carries; none for a register write, an event or an internal step. -/
def ticketOf : Instr → Option Ticket
  | .orderOpen t _ _ _ _ => some t
  | .orderAddItems t _ => some t
  | .orderQuote t => some t
  | .orderCancel t => some t
  | .orderDropItem t _ => some t
  | .orderResolve t _ _ _ => some t
  | .loadPrices t _ => some t
  | .cardRead t _ _ _ => some t
  | .engineControlEvacuate t _ => some t
  | .engineControlPause t _ => some t
  | .engineControlResume t _ => some t
  | .engineControlReset t _ => some t
  | .mediaSet t _ _ _ _ => some t
  | .engineProof t _ _ _ _ _ _ _ => some t
  | .loadTone t _ _ _ => some t
  | .payCard t => some t
  | .linkTestLoopOn t _ => some t
  | .linkTestLoopOff t => some t
  | .linkTestSend t _ => some t
  | .linkTestInsertError t => some t
  | .payCashBind t => some t
  | .payCashUnbind t => some t
  | .refreshSettings t => some t
  | .readCounters t => some t
  | .run | .stop | .softReset | .nudge _ | .attnCauseWrite _ | .attnEnableWrite _ | .exchBaseLowWrite _
  | .exchBaseHighWrite _ | .registerWriteNoEffect _ _ | .powerOnReset | .linkReset | .scanTimerExpiry
  | .logLingerExpiry | .settingsApplied | .waitingProducerStep | .burstEnd _ | .burstReadTimeout | .abandonExpiry _
  | .cardInsertion _ | .cardRemoval _ | .cardSettleEnd _ | .identifyAnswer _ _ _ | .identifyTimeout _
  | .blockAnswer _ _ _ | .blockTimeout _ | .mechReady _ _ | .mechFault _ _ | .mechLineRequest _ _ | .mechEjectDone _ _
  | .engineSilence _ | .printSilence _ | .printEndStep _ | .tenderFrameReceived _ | .receiveGapTimeout
  | .receiveQueueProcess | .linkSilence | .transmitGapElapsed | .transmitEnd | .responseExpiry | .queryExpiry
  | .cashPulseCompleted _ | .lineFaultSet | .lineFaultCleared | .cashFaultApplied | .cashBindApplied
  | .settleWindowExpiry | .cashCreditApplied | .cashStrayApplied | .windowEndApplied | .reportTimerExpiry
  | .counterReport | .busMasterEnableChange _ => none

/-- A well-formed command's ticket is in range. -/
def TicketInRange.Statement (i : Instr) : Prop :=
  i.wf = true → ∀ t, ticketOf i = some t → t.slot < 64 ∧ t.seq < 65536 ∧ t.order < 65536

/-- A ticket that passes the check is in range. -/
theorem ticket_in_range {t : Ticket} (h : t.wf = true) : t.slot < 64 ∧ t.seq < 65536 ∧ t.order < 65536 := by
  simpa [Ticket.wf, and_assoc] using h

/-- A command whose check includes its ticket's. -/
theorem ticket_checked {i : Instr} {t : Ticket} (ht : ticketOf i = some t) (h : i.wf = true → t.wf = true) : TicketInRange.Statement i := by
  intro hw u hu
  rw [ht] at hu
  exact Option.some.inj hu ▸ ticket_in_range (h hw)

/-- A command with no ticket. -/
theorem no_ticket {i : Instr} (h : ticketOf i = none) : TicketInRange.Statement i := by
  intro _ u hu
  rw [h] at hu
  cases hu

theorem TicketInRange.run : TicketInRange.Statement .run := no_ticket rfl
theorem TicketInRange.stop : TicketInRange.Statement .stop := no_ticket rfl
theorem TicketInRange.softReset : TicketInRange.Statement .softReset := no_ticket rfl
theorem TicketInRange.nudge (value : Word32) : TicketInRange.Statement (.nudge value) := no_ticket rfl
theorem TicketInRange.attnCauseWrite (value : Word32) : TicketInRange.Statement (.attnCauseWrite value) := no_ticket rfl
theorem TicketInRange.attnEnableWrite (value : Word32) : TicketInRange.Statement (.attnEnableWrite value) := no_ticket rfl
theorem TicketInRange.exchBaseLowWrite (value : Word32) : TicketInRange.Statement (.exchBaseLowWrite value) := no_ticket rfl
theorem TicketInRange.exchBaseHighWrite (value : Word32) : TicketInRange.Statement (.exchBaseHighWrite value) := no_ticket rfl
theorem TicketInRange.registerWriteNoEffect (offset : Nat) (value : Word32) : TicketInRange.Statement (.registerWriteNoEffect offset value) := no_ticket rfl
theorem TicketInRange.powerOnReset : TicketInRange.Statement .powerOnReset := no_ticket rfl
theorem TicketInRange.linkReset : TicketInRange.Statement .linkReset := no_ticket rfl
theorem TicketInRange.scanTimerExpiry : TicketInRange.Statement .scanTimerExpiry := no_ticket rfl
theorem TicketInRange.logLingerExpiry : TicketInRange.Statement .logLingerExpiry := no_ticket rfl
theorem TicketInRange.settingsApplied : TicketInRange.Statement .settingsApplied := no_ticket rfl
theorem TicketInRange.waitingProducerStep : TicketInRange.Statement .waitingProducerStep := no_ticket rfl
theorem TicketInRange.burstEnd (result : BurstResult) : TicketInRange.Statement (.burstEnd result) := no_ticket rfl
theorem TicketInRange.burstReadTimeout : TicketInRange.Statement .burstReadTimeout := no_ticket rfl
theorem TicketInRange.orderOpen (t : Ticket) (station cls profile finish : Nat) : TicketInRange.Statement (.orderOpen t station cls profile finish) := ticket_checked rfl fun h => by simp only [Instr.wf, Bool.and_eq_true] at h; tauto
theorem TicketInRange.orderAddItems (t : Ticket) (items : List ItemDesc) : TicketInRange.Statement (.orderAddItems t items) := ticket_checked rfl fun h => by simp only [Instr.wf, Bool.and_eq_true] at h; tauto
theorem TicketInRange.orderQuote (t : Ticket) : TicketInRange.Statement (.orderQuote t) := ticket_checked rfl fun h => by simpa only [Instr.wf] using h
theorem TicketInRange.orderCancel (t : Ticket) : TicketInRange.Statement (.orderCancel t) := ticket_checked rfl fun h => by simpa only [Instr.wf] using h
theorem TicketInRange.orderDropItem (t : Ticket) (item : Nat) : TicketInRange.Statement (.orderDropItem t item) := ticket_checked rfl fun h => by simp only [Instr.wf, Bool.and_eq_true] at h; tauto
theorem TicketInRange.orderResolve (t : Ticket) (answer reference amount : Nat) : TicketInRange.Statement (.orderResolve t answer reference amount) := ticket_checked rfl fun h => by simp only [Instr.wf, Bool.and_eq_true] at h; tauto
theorem TicketInRange.abandonExpiry (order : Nat) : TicketInRange.Statement (.abandonExpiry order) := no_ticket rfl
theorem TicketInRange.loadPrices (t : Ticket) (address : Nat) : TicketInRange.Statement (.loadPrices t address) := ticket_checked rfl fun h => by simp only [Instr.wf, Bool.and_eq_true] at h; tauto
theorem TicketInRange.cardInsertion (slot : Fin 4) : TicketInRange.Statement (.cardInsertion slot) := no_ticket rfl
theorem TicketInRange.cardRemoval (slot : Fin 4) : TicketInRange.Statement (.cardRemoval slot) := no_ticket rfl
theorem TicketInRange.cardSettleEnd (slot : Fin 4) : TicketInRange.Statement (.cardSettleEnd slot) := no_ticket rfl
theorem TicketInRange.identifyAnswer (slot : Fin 4) (capacity check : Nat) : TicketInRange.Statement (.identifyAnswer slot capacity check) := no_ticket rfl
theorem TicketInRange.identifyTimeout (slot : Fin 4) : TicketInRange.Statement (.identifyTimeout slot) := no_ticket rfl
theorem TicketInRange.cardRead (t : Ticket) (slot item : Nat) (extents : List Extent) : TicketInRange.Statement (.cardRead t slot item extents) := ticket_checked rfl fun h => by simp only [Instr.wf, Bool.and_eq_true] at h; tauto
theorem TicketInRange.blockAnswer (slot : Fin 4) (data : List Byte) (check : Nat) : TicketInRange.Statement (.blockAnswer slot data check) := no_ticket rfl
theorem TicketInRange.blockTimeout (slot : Fin 4) : TicketInRange.Statement (.blockTimeout slot) := no_ticket rfl
theorem TicketInRange.engineControlEvacuate (t : Ticket) (engine : Nat) : TicketInRange.Statement (.engineControlEvacuate t engine) := ticket_checked rfl fun h => by simp only [Instr.wf, Bool.and_eq_true] at h; tauto
theorem TicketInRange.engineControlPause (t : Ticket) (engine : Nat) : TicketInRange.Statement (.engineControlPause t engine) := ticket_checked rfl fun h => by simp only [Instr.wf, Bool.and_eq_true] at h; tauto
theorem TicketInRange.engineControlResume (t : Ticket) (engine : Nat) : TicketInRange.Statement (.engineControlResume t engine) := ticket_checked rfl fun h => by simp only [Instr.wf, Bool.and_eq_true] at h; tauto
theorem TicketInRange.engineControlReset (t : Ticket) (engine : Nat) : TicketInRange.Statement (.engineControlReset t engine) := ticket_checked rfl fun h => by simp only [Instr.wf, Bool.and_eq_true] at h; tauto
theorem TicketInRange.mediaSet (t : Ticket) (engine kind sheets ribbons : Nat) : TicketInRange.Statement (.mediaSet t engine kind sheets ribbons) := ticket_checked rfl fun h => by simp only [Instr.wf, Bool.and_eq_true] at h; tauto
theorem TicketInRange.engineProof (t : Ticket) (engine profile finish temp lines source dest : Nat) : TicketInRange.Statement (.engineProof t engine profile finish temp lines source dest) := ticket_checked rfl fun h => by simp only [Instr.wf, Bool.and_eq_true] at h; tauto
theorem TicketInRange.loadTone (t : Ticket) (profile colour address : Nat) : TicketInRange.Statement (.loadTone t profile colour address) := ticket_checked rfl fun h => by simp only [Instr.wf, Bool.and_eq_true] at h; tauto
theorem TicketInRange.mechReady (engine : Fin 2) (temp : Nat) : TicketInRange.Statement (.mechReady engine temp) := no_ticket rfl
theorem TicketInRange.mechFault (engine : Fin 2) (code : MechFaultCode) : TicketInRange.Statement (.mechFault engine code) := no_ticket rfl
theorem TicketInRange.mechLineRequest (engine : Fin 2) (temp : Nat) : TicketInRange.Statement (.mechLineRequest engine temp) := no_ticket rfl
theorem TicketInRange.mechEjectDone (engine : Fin 2) (temp : Nat) : TicketInRange.Statement (.mechEjectDone engine temp) := no_ticket rfl
theorem TicketInRange.engineSilence (engine : Fin 2) : TicketInRange.Statement (.engineSilence engine) := no_ticket rfl
theorem TicketInRange.printSilence (engine : Fin 2) : TicketInRange.Statement (.printSilence engine) := no_ticket rfl
theorem TicketInRange.printEndStep (engine : Fin 2) : TicketInRange.Statement (.printEndStep engine) := no_ticket rfl
theorem TicketInRange.tenderFrameReceived (bytes : List Byte) : TicketInRange.Statement (.tenderFrameReceived bytes) := no_ticket rfl
theorem TicketInRange.receiveGapTimeout : TicketInRange.Statement .receiveGapTimeout := no_ticket rfl
theorem TicketInRange.receiveQueueProcess : TicketInRange.Statement .receiveQueueProcess := no_ticket rfl
theorem TicketInRange.linkSilence : TicketInRange.Statement .linkSilence := no_ticket rfl
theorem TicketInRange.transmitGapElapsed : TicketInRange.Statement .transmitGapElapsed := no_ticket rfl
theorem TicketInRange.transmitEnd : TicketInRange.Statement .transmitEnd := no_ticket rfl
theorem TicketInRange.responseExpiry : TicketInRange.Statement .responseExpiry := no_ticket rfl
theorem TicketInRange.queryExpiry : TicketInRange.Statement .queryExpiry := no_ticket rfl
theorem TicketInRange.payCard (t : Ticket) : TicketInRange.Statement (.payCard t) := ticket_checked rfl fun h => by simpa only [Instr.wf] using h
theorem TicketInRange.linkTestLoopOn (t : Ticket) (mode : Nat) : TicketInRange.Statement (.linkTestLoopOn t mode) := ticket_checked rfl fun h => by simp only [Instr.wf, Bool.and_eq_true] at h; tauto
theorem TicketInRange.linkTestLoopOff (t : Ticket) : TicketInRange.Statement (.linkTestLoopOff t) := ticket_checked rfl fun h => by simpa only [Instr.wf] using h
theorem TicketInRange.linkTestSend (t : Ticket) (count : Nat) : TicketInRange.Statement (.linkTestSend t count) := ticket_checked rfl fun h => by simp only [Instr.wf, Bool.and_eq_true] at h; tauto
theorem TicketInRange.linkTestInsertError (t : Ticket) : TicketInRange.Statement (.linkTestInsertError t) := ticket_checked rfl fun h => by simpa only [Instr.wf] using h
theorem TicketInRange.cashPulseCompleted (length : Nat) : TicketInRange.Statement (.cashPulseCompleted length) := no_ticket rfl
theorem TicketInRange.lineFaultSet : TicketInRange.Statement .lineFaultSet := no_ticket rfl
theorem TicketInRange.lineFaultCleared : TicketInRange.Statement .lineFaultCleared := no_ticket rfl
theorem TicketInRange.cashFaultApplied : TicketInRange.Statement .cashFaultApplied := no_ticket rfl
theorem TicketInRange.payCashBind (t : Ticket) : TicketInRange.Statement (.payCashBind t) := ticket_checked rfl fun h => by simpa only [Instr.wf] using h
theorem TicketInRange.cashBindApplied : TicketInRange.Statement .cashBindApplied := no_ticket rfl
theorem TicketInRange.payCashUnbind (t : Ticket) : TicketInRange.Statement (.payCashUnbind t) := ticket_checked rfl fun h => by simpa only [Instr.wf] using h
theorem TicketInRange.settleWindowExpiry : TicketInRange.Statement .settleWindowExpiry := no_ticket rfl
theorem TicketInRange.cashCreditApplied : TicketInRange.Statement .cashCreditApplied := no_ticket rfl
theorem TicketInRange.cashStrayApplied : TicketInRange.Statement .cashStrayApplied := no_ticket rfl
theorem TicketInRange.windowEndApplied : TicketInRange.Statement .windowEndApplied := no_ticket rfl
theorem TicketInRange.refreshSettings (t : Ticket) : TicketInRange.Statement (.refreshSettings t) := ticket_checked rfl fun h => by simpa only [Instr.wf] using h
theorem TicketInRange.readCounters (t : Ticket) : TicketInRange.Statement (.readCounters t) := ticket_checked rfl fun h => by simpa only [Instr.wf] using h
theorem TicketInRange.reportTimerExpiry : TicketInRange.Statement .reportTimerExpiry := no_ticket rfl
theorem TicketInRange.counterReport : TicketInRange.Statement .counterReport := no_ticket rfl
theorem TicketInRange.busMasterEnableChange (enabled : Bool) : TicketInRange.Statement (.busMasterEnableChange enabled) := no_ticket rfl

end Sys2Proof.Laws
end

