-- ==== Sys2Proof/Laws/Settle.lean ====
section
/-! SUPPORT. What follows a command's step (State.settle): with the part enabled to master the bus it changes nothing but the exchange
controller's own course, and takes no request of the mover away. -/

namespace Sys2Proof.Machine

/-! ## The still part of a state -/

/-- What the exchange controller and the mover do by themselves leaves this as it is: the still part, the bus master enable, and the requests
made of the mover and the producers that wait. -/
structure State.Follows (s t : State) : Prop where
  still : t.still = s.still
  busMaster : t.exch.busMaster = s.exch.busMaster
  requests : s.mover.requests <+: t.mover.requests
  waiting : s.waiting <+: t.waiting

theorem State.Follows.refl (s : State) : State.Follows s s := ⟨rfl, rfl, List.prefix_refl _, List.prefix_refl _⟩

theorem State.Follows.trans {s t u : State} (h : State.Follows s t) (k : State.Follows t u) : State.Follows s u :=
  ⟨k.still.trans h.still, k.busMaster.trans h.busMaster, h.requests.trans k.requests, h.waiting.trans k.waiting⟩

/-- The request of the ticket writer for its place, alone in course. -/
abbrev ticketJob : Job := ⟨[], .ticketPlace⟩

/-! ## One step of the exchange controller's course -/

theorem State.startRecord_follows (s : State) : State.Follows s s.startRecord :=
  ⟨rfl, rfl, List.prefix_append _ _, List.prefix_refl _⟩

theorem State.stoppingTest_follows (s : State) : State.Follows s s.stoppingTest := by
  unfold State.stoppingTest
  split
  · rename_i h
    have hp : s.exch.part = .stopping := by simpa using (Bool.and_eq_true_iff.mp h).1
    refine ⟨?_, rfl, List.prefix_refl _, List.prefix_refl _⟩
    simp [State.still, State.modExch, hp, PartState.resting]
  · exact State.Follows.refl s

theorem State.grantNext_follows (s : State) (hb : s.exch.busMaster = true) :
    State.Follows s s.grantNext ∧ s.grantNext.agenda = s.agenda := by
  unfold State.grantNext
  split
  · exact ⟨State.Follows.refl s, rfl⟩
  · split
    · exact ⟨State.Follows.refl s, rfl⟩
    · rw [if_pos (by exact hb)]
      exact ⟨⟨rfl, rfl, List.prefix_refl _, List.prefix_refl _⟩, rfl⟩

theorem State.ticketPlace_follows (s : State) : State.Follows s s.ticketPlace ∧ s.ticketPlace.agenda = s.agenda := by
  unfold State.ticketPlace
  split
  · split
    · exact ⟨⟨rfl, rfl, List.prefix_append _ _, List.prefix_refl _⟩, rfl⟩
    · exact ⟨⟨rfl, rfl, List.prefix_refl _, List.prefix_refl _⟩, rfl⟩
  · exact ⟨⟨rfl, rfl, List.prefix_refl _, List.prefix_refl _⟩, rfl⟩
  · exact ⟨State.Follows.refl s, rfl⟩

/-- Nothing keeps an order of arrival with no owner. -/
@[simp] theorem sharesOwner_nil (l : List Owner) : sharesOwner l [] = false := by simp [sharesOwner]

@[simp] theorem sharesOwner_nil_left (l : List Owner) : sharesOwner [] l = false := rfl

/-- Nothing moves behind a request that continues none. -/
theorem State.splitLine_nil (s : State) (l : List Job) : s.splitLine [] l = (l, []) := by
  induction l with
  | nil => rfl
  | cons k l ih => simp [State.splitLine, ih]

/-- A request with no owner joins the line at its end. -/
theorem State.lineIndex_unowned (j : Job) (s : State) (h : ownersOf j.act s = []) : s.lineIndex j = s.waiting.length := by
  have hf : ∀ l : List (List Owner), l.findIdx (fun _ => false) = l.length := by
    intro l; induction l with
    | nil => rfl
    | cons _ _ ih => simp [List.findIdx_cons, ih]
  simp [State.lineIndex, State.keeps, State.continues, h, hf]

/-- A request with no owner, which is not the block's own timer's, joins the line at its end and leaves those in course as they are. -/
theorem State.enqueueWait_unowned (j : Job) (s : State) (h : ownersOf j.act s = []) (hi : j.act.internal = false) :
    s.enqueueWait j = { s with waiting := s.waiting ++ [j] } := by
  have hc : s.continues j = [] := by simp [State.continues, h]
  simp [State.enqueueWait, hi, hc, State.lineIndex_unowned j s h, State.splitLine_nil]

theorem State.enqueueWait_follows (s : State) :
    State.Follows s (s.enqueueWait ticketJob) ∧ (s.enqueueWait ticketJob).agenda = s.agenda := by
  rw [State.enqueueWait_unowned ticketJob s rfl rfl]
  exact ⟨⟨rfl, rfl, List.prefix_refl _, List.prefix_append _ _⟩, rfl⟩

theorem State.process_ticketPlace (s : State) (ha : s.agenda = []) :
    State.Follows s (s.process ticketJob) ∧ (s.process ticketJob).agenda = [] := by
  unfold State.process
  split
  · exact ⟨s.enqueueWait_follows.1, s.enqueueWait_follows.2.trans ha⟩
  · have hs : ({ s with agenda := [] } : State) = s := by cases s; simp_all
    have h := s.ticketPlace_follows
    have hm : s.ticketPlace.agenda = [] := h.2.trans ha
    have he : State.attempt ticketJob s = s.ticketPlace := by
      simp only [State.attempt, applyAct, hs, hm, ha, List.map_nil, List.append_nil]
      cases ht : s.ticketPlace
      simp_all
    simp only [he]
    split
    · exact ⟨h.1, hm⟩
    · exact ⟨s.enqueueWait_follows.1, s.enqueueWait_follows.2.trans ha⟩

theorem State.housekeep_follows (s t : State) (ha : s.agenda = []) (hb : s.exch.busMaster = true) (h : s.housekeep = some t) :
    State.Follows s t ∧ (t.agenda = [] ∨ t.agenda = [ticketJob]) := by
  unfold State.housekeep at h
  split at h
  · cases h; exact ⟨s.startRecord_follows, .inl ha⟩
  · split at h
    · cases h
      refine ⟨⟨rfl, rfl, List.prefix_refl _, List.prefix_refl _⟩, .inr ?_⟩
      simp [ha]
    · split at h
      · cases h
        refine ⟨s.stoppingTest_follows, .inl ?_⟩
        unfold State.stoppingTest; split <;> simpa using ha
      · split at h
        · cases h
          exact ⟨(s.grantNext_follows hb).1, .inl ((s.grantNext_follows hb).2.trans ha)⟩
        · cases h

/-! ## What follows a command's step -/

/-- With the bus enabled and nothing in course, what follows a change is the exchange controller's own course. -/
theorem State.drain_follows (k : Nat) :
    ∀ s : State, s.exch.busMaster = true → (s.agenda = [] ∨ s.agenda = [ticketJob]) → State.Follows s (State.drain k s) := by
  induction k with
  | zero => intro s _ _; exact State.Follows.refl s
  | succ k ih =>
    intro s hb ha
    rcases ha with ha | ha
    · simp only [State.drain, ha]
      split
      · rename_i t ht
        obtain ⟨hf, hag⟩ := s.housekeep_follows t ha hb ht
        exact hf.trans (ih t (hf.busMaster.trans hb) hag)
      · exact State.Follows.refl s
    · simp only [State.drain, ha]
      have h0 : State.Follows s { s with agenda := [] } := ⟨rfl, rfl, List.prefix_refl _, List.prefix_refl _⟩
      have hp := State.process_ticketPlace { s with agenda := [] } rfl
      exact h0.trans (hp.1.trans (ih _ (hp.1.busMaster.trans hb) (.inl hp.2)))

/-- What follows a change when nothing is in course. -/
theorem State.settle_follows (s : State) (hq : s.quiet) : State.Follows s s.settle :=
  State.drain_follows _ s hq.2 (.inl hq.1)

/-! ## A command's step -/

theorem Config.fuel_succ : Config.fuel = 4095 + 1 := rfl

/-- One request in course is applied. -/
theorem State.drain_cons (k : Nat) (s : State) (j : Job) (rest : List Job) (h : s.agenda = j :: rest) :
    State.drain (k + 1) s = State.drain k (State.process j { s with agenda := rest }) := by
  simp only [State.drain, h]

/-- A request that finds its room when no producer waits is applied. -/
theorem State.process_applied (j : Job) (s : State) (hw : s.waiting = [])
    (hr : (s.attempt j).occupied ≤ Config.outcomePlaces ∨ (s.attempt j).occupied ≤ s.occupied) :
    s.process j = s.attempt j := by
  have h0 : s.behindWaiting j = false := by simp [State.behindWaiting, hw]
  have h1 : s.hasRoom (s.attempt j) = true := by
    rcases hr with h | h
    · simp [State.hasRoom, hw, h]
    · simp [State.hasRoom, State.placesTaken, Nat.sub_eq_zero_of_le h]
  simp [State.process, h0, h1]

/-- A request that makes no request of its own leaves those in course as they are. -/
theorem State.attempt_plain (j : Job) (s : State) (h : (applyAct j.act { s with agenda := [] }).agenda = []) :
    s.attempt j = { applyAct j.act { s with agenda := [] } with agenda := s.agenda } := by
  simp [State.attempt, h]

/-- A calm part makes a command's step at once when the step makes no request of another block; what follows is the exchange controller's
own course. -/
theorem State.perform_plain (a : Act) (s : State) (places : Nat) (hc : s.calm places)
    (hm : (applyAct a s).agenda = []) (hb : (applyAct a s).exch.busMaster = true)
    (hr : (applyAct a s).occupied ≤ s.occupied + places) :
    State.Follows (applyAct a s) (s.perform a) := by
  obtain ⟨⟨ha, _⟩, hw, ho⟩ := hc
  have hs : ({ s.push a with agenda := [] } : State) = s := by
    cases s; simp_all [State.push]
  have hag : (s.push a).agenda = ⟨[], a⟩ :: [] := by simp [ha]
  have he : State.attempt ⟨[], a⟩ s = applyAct a s := by
    have hs' : ({ s with agenda := [] } : State) = s := by cases s; simp_all
    rw [State.attempt_plain _ _ (by rw [hs']; exact hm), hs', ha]
    cases ht : applyAct a s
    simp_all
  have hp : State.process ⟨[], a⟩ s = applyAct a s := by
    rw [State.process_applied _ _ hw (by rw [he]; left; omega), he]
  rw [State.perform, State.settle, Config.fuel_succ, State.drain_cons _ _ _ _ hag, hs, hp]
  exact State.drain_follows _ _ hb (.inl hm)

end Sys2Proof.Machine
end

