-- ==== Sys2Proof/Tests/Slice0.lean ====
section
/-! SUPPORT. The row's own tests, all on one step or one function: WellFormed's refusals, the spec's worked examples, and for each statement of
Certificates/Slice0/Obligations.lean with hypotheses a state and operands that meet them together. Where a test's expected result
comes from is said in its section's title; the figures are the spec's but where a comment says PRESUMED. -/

namespace Sys2Proof.Tests

open Sys2Proof.Machine

/-! ## WellFormed: one command that each check refuses -/

/-- A ticket in range. -/
def tk : Ticket := { slot := 5, seq := 321, order := 7 }

/-- A ticket that names no order. -/
def tk0 : Ticket := { slot := 5, seq := 321, order := 0 }

theorem test_wf_tickets :
    tk.wf = true ∧ ({ tk with slot := 64 }).wf = false ∧ ({ tk with seq := 65536 }).wf = false ∧ ({ tk with order := 65536 }).wf = false := by decide

theorem test_wf_every_ticket_command_checks_its_ticket :
    let b : Ticket := { tk with slot := 64 }
    [Instr.orderOpen b 0 0 0 0, .orderAddItems b [], .orderQuote b, .orderCancel b, .orderDropItem b 0, .orderResolve b 0 0 0, .loadPrices b 0,
     .cardRead b 0 0 [], .engineControlEvacuate b 0, .engineControlPause b 0, .engineControlResume b 0, .engineControlReset b 0, .mediaSet b 0 0 0 0,
     .engineProof b 0 0 0 0 0 0 0, .loadTone b 0 0 0, .payCard b, .linkTestLoopOn b 0, .linkTestLoopOff b, .linkTestSend b 0,
     .linkTestInsertError b, .payCashBind b, .payCashUnbind b, .refreshSettings b, .readCounters b].all (fun c => !c.wf) = true := by decide

theorem test_wf_writes_without_effect :
    [Instr.registerWriteNoEffect 0 1, .registerWriteNoEffect 4 4, .registerWriteNoEffect 8 1].all Instr.wf = true
    ∧ [Instr.registerWriteNoEffect 4 1, .registerWriteNoEffect 4 2, .registerWriteNoEffect 4 3, .registerWriteNoEffect 12 0].all (fun c => !c.wf) = true := by
  decide

theorem test_wf_order_operands :
    [Instr.orderOpen tk 256 0 0 0, .orderOpen tk 0 256 0 0, .orderOpen tk 0 0 256 0, .orderOpen tk 0 0 0 256, .orderDropItem tk 256,
     .orderResolve tk 256 0 0, .orderResolve tk 0 18446744073709551616 0, .orderResolve tk 0 0 4294967296, .abandonExpiry 65536,
     .loadPrices tk 18446744073709551616].all (fun c => !c.wf) = true := by decide

theorem test_wf_items :
    let d : ItemDesc := { address := 0, product := 0, copies := 0, preStaged := 0 }
    (Instr.orderAddItems tk [d]).wf = true
    ∧ [Instr.orderAddItems tk [{ d with address := 18446744073709551616 }], .orderAddItems tk [{ d with product := 256 }],
       .orderAddItems tk [{ d with copies := 256 }], .orderAddItems tk [{ d with preStaged := 256 }]].all (fun c => !c.wf) = true := by decide

theorem test_wf_item_count :
    (Instr.orderAddItems tk (List.replicate 256 { address := 0, product := 0, copies := 0, preStaged := 0 })).wf = false
    ∧ (Instr.cardRead tk 0 0 (List.replicate 256 { start := 0, count := 0, dest := 0 })).wf = false := by decide +kernel

theorem test_wf_card_operands :
    [Instr.identifyAnswer 0 4294967296 0, .identifyAnswer 0 0 65536, .cardRead tk 256 0 [], .cardRead tk 0 256 [],
     .cardRead tk 0 0 [{ start := 4294967296, count := 0, dest := 0 }], .cardRead tk 0 0 [{ start := 0, count := 65536, dest := 0 }],
     .cardRead tk 0 0 [{ start := 0, count := 0, dest := 18446744073709551616 }], .blockAnswer 0 [] 0].all (fun c => !c.wf) = true := by decide

theorem test_wf_long_data :
    (Instr.blockAnswer 0 (List.replicate 512 0) 65536).wf = false ∧ (Instr.blockAnswer 0 (List.replicate 512 0) 65535).wf = true
    ∧ (Instr.burstEnd (.done (List.replicate 513 0))).wf = false ∧ (Instr.burstEnd (.done (List.replicate 512 0))).wf = true := by decide +kernel

theorem test_wf_engine_operands :
    [Instr.engineControlEvacuate tk 256, .engineControlPause tk 256, .engineControlResume tk 256, .engineControlReset tk 256, .mediaSet tk 256 0 0 0,
     .mediaSet tk 0 256 0 0, .mediaSet tk 0 0 65536 0, .mediaSet tk 0 0 0 65536, .engineProof tk 256 0 0 0 0 0 0, .engineProof tk 0 256 0 0 0 0 0,
     .engineProof tk 0 0 256 0 0 0 0, .engineProof tk 0 0 0 256 0 0 0, .engineProof tk 0 0 0 0 65536 0 0,
     .engineProof tk 0 0 0 0 0 18446744073709551616 0, .engineProof tk 0 0 0 0 0 0 18446744073709551616, .loadTone tk 256 0 0, .loadTone tk 0 256 0,
     .loadTone tk 0 0 18446744073709551616, .mechReady 0 256, .mechLineRequest 0 256, .mechEjectDone 0 256].all (fun c => !c.wf) = true := by decide

theorem test_wf_tender_and_cash_operands :
    [Instr.linkTestLoopOn tk 256, .linkTestSend tk 256, .cashPulseCompleted 0, .cashPulseCompleted 500].all (fun c => !c.wf) = true := by decide

/-! ## States for the tests -/

/-- A part that runs with nothing under way. -/
def calmPart : State :=
  { State.reset with
    clock := 10000
    exch := { part := .running, busMaster := true, ranOnce := true, baseLow := 0x10000#32 } }


/-- Five copies of an item, of which two have been assigned and one delivered. -/
def item : Item :=
  { product := 0, address := 4096, copies := 5, staging := .staged, unitPrice := some 20, assigned := 2, delivered := 1, spoiled := 1
    withdrawn := 1, undeliverable := 1 }

/-- Order 7 in a state. -/
def ord (st : OrderState) : Order :=
  { number := 7, station := 1, cls := .standard, profile := 2, finish := .matte, state := st, items := [item, item], subtotal := some 200
    taxRate := some 825, quote := some 217, lastActivity := 100 }

/-- A calm part with one more order. -/
def withOrder (o : Order) : State := { calmPart with orders := calmPart.orders ++ [o] }

/-- A calm part with one block of it replaced. -/
def withExch (f : Exchange → Exchange) : State := { calmPart with exch := f calmPart.exch }
def withSlot (f : Slot → Slot) : State := calmPart.modSlot 1 f
def withPort (f : Port → Port) : State := calmPart.modPort 1 f
def withTender (f : Tender → Tender) : State := { calmPart with tender := f calmPart.tender }
def withCash (f : Cash → Cash) : State := { calmPart with cash := f calmPart.cash }

/-- A mover whose current grant is the whole of one request. -/
def granted (tag : ReqTag) (write : Option (List Byte)) : Mover :=
  { requests := [{ tag := tag, address := 66560, length := 1, write := write }]
    grant := some { place := tag.place, address := 66560, length := 1, write := write, issued := 9000 } }

/-- One extent of three blocks. -/
def ext : Extent := { start := 10, count := 3, dest := 1048576 }

/-- A read of that extent. -/
def readOf : ReadEntry := { ticket := tk0, order := 0, item := 255, extents := [ext] }

/-- A slot that has asked for the second block of a read. -/
def readingSlot (x : Slot) : Slot :=
  { x with state := .reading, declared := true, power := true, capacity := 4096, queue := [readOf]
           pos := some { extent := 0, block := 1, attempt := 2 }, request := some (.block 11), since := 9000 }

/-- A print of item 0 of order 7. -/
def print : Print := { order := 7, item := 0, copy := 1, reprint := false, profile := 2, finish := .matte, kind := 0 }

/-- Its record, three lines into a pass of 600. -/
def record : PrintRecord := { print := print, lines := 600, lineIndex := 3 }

/-- A port that prints. -/
def printing (ph : Phase) (p : Port) : Port :=
  { p with state := .printing, watching := true, phase := some ph, record := some record, media := some 0, ribbons := 4, heardAt := 9000
           signalAt := 7000, lastTemp := some 33 }

/-- The run that prints. -/
def run : Run :=
  { order := 7, engine := 1, kind := 0, cls := .standard, profile := 2, finish := .matte, item := 0, copy := 1, state := .active }

/-- A picture in hand. -/
def inHand : InHand := { image := 4096, lines := 600, profile := 2, finish := .matte }

/-- A HOLD of order 7. -/
def hold : TenderEntry := { kind := .hold, order := 7, amount := 217, reference := 0, ticket := some tk }

/-- A CAPTURE of order 7. -/
def capture : TenderEntry := { kind := .capture, order := 7, amount := 90, reference := 77 }

/-- The settings that a reading of the setup block gave. -/
def ready (cause : SetupCause) (both : Bool) (clamped : List Nat) : SetupReady :=
  { cause := cause, bothClasses := both, settings := { calmPart.exch.settings with taxRate := 825 }, clamped := clamped }

/-- The link is UP and nothing has been sent. -/
def linked (t : Tender) : Tender := { t with listening := true, linkUp := true, accepted := some .idle, lastValid := some 6000 }

/-- An ending that the ticket writer writes. -/
def ending : Ending := { ticket := tk, kind := 3, code := .ok, detail := 217 }

/-- A record that the log writer has written. -/
def outcome : OutcomeRecord := { payload := .settings true false [], time := 5 }
/-- The end of a settle time, waiting. -/
def settleJob : Job := ⟨[], .cmd (.cardSettleEnd 1)⟩

/-- A full pending outcome queue with that end waiting, and others behind it. -/
def fullLine (rest : List Job) : State :=
  { withSlot (fun x => { x with state := .settled, since := 9000 }) with
    waiting := settleJob :: rest
    exch := { calmPart.exch with outcomes := List.replicate 16 outcome } }

/-- A print of order 7 that has had no signal for 3,000 ms. -/
def silentPart (st : OrderState) (a : Run) : State :=
  { withOrder (ord st) with ports := ⟨{}, printing (.pass .m) {}⟩, sched := ⟨{}, { active := some a }⟩ }

/-! ## Quotes and settlement: the worked examples of 02_quotes_and_settlement.md -/

/-- The product table of the quote of order 418. -/
def shelf : List Product :=
  ({ : Product }) :: {} :: { valid := true, lines := 1200, min1 := 1, price1 := 40, min2 := 10, price2 := 32, min3 := 50, price3 := 25 } :: {} :: {}
    :: { valid := true, media := 1, lines := 1800, min1 := 1, price1 := 500, min2 := 2, price2 := 500, min3 := 3, price3 := 500 }
    :: List.replicate 26 {}

/-- Some copies of a product, with a number of them delivered at a unit price. -/
def copiesOf (product copies : Nat) (price : Option Nat := none) (delivered : Nat := 0) : Item :=
  { product := product, address := 0, copies := copies, staging := .staged, unitPrice := price, delivered := delivered }

theorem test_quote_of_order_418 :
    quoteOf shelf 825 [copiesOf 2 6, copiesOf 2 8, copiesOf 5 1] = .priced [32, 32, 500] 948 825 1026 := by decide

theorem test_tier_boundaries :
    [9, 10, 49, 50].map (fun n => quoteOf shelf 0 [copiesOf 2 n])
      = [.priced [40] 360 0 360, .priced [32] 320 0 320, .priced [32] 1568 0 1568, .priced [25] 1250 0 1250] := by decide

theorem test_tax_rounding :
    [taxOn 6 825, taxOn 7 825, taxOn 40 125, taxOn 948 0, taxOn 923787 825, taxOn 923788 825, taxOn 769231 3000]
      = [0, 1, 1, 0, 76212, 76213, 230769] := by decide

/-- A product whose one copy costs a subtotal. -/
def single (price : Nat) : List Product := [{ valid := true, min1 := 1, price1 := price, min2 := 2, min3 := 3 }]

theorem test_quote_limits :
    quoteOf (single 923787) 825 [copiesOf 0 1] = .priced [923787] 923787 825 999999
    ∧ quoteOf (single 923788) 825 [copiesOf 0 1] = .refused .tooLarge 1000001
    ∧ quoteOf (single 769231) 3000 [copiesOf 0 1] = .priced [769231] 769231 3000 1000000
    ∧ quoteOf (single 769232) 3000 [copiesOf 0 1] = .refused .tooLarge 1000002 := by decide

/-- Order 418 with delivered copies of A, B and C. -/
def order418 (a b c : Nat) (held : Option Nat) (cash : Nat) : Order :=
  { number := 418, station := 0, cls := .standard, profile := 0, finish := .glossy, lastActivity := 0, taxRate := some 825
    items := [copiesOf 2 6 (some 32) a, copiesOf 2 8 (some 32) b, copiesOf 5 1 (some 500) c], held := held, cash := cash }

/-- Charge, cash applied, card part, capture, shortfall and surplus, as the tables list them. -/
theorem test_settlements :
    settlementOf (order418 6 7 1 (some 626) 400) = ⟨992, 400, 592, 592, 0, 0⟩
    ∧ settlementOf (order418 6 0 1 (some 626) 400) = ⟨749, 400, 349, 349, 0, 0⟩
    ∧ settlementOf (order418 5 0 0 (some 626) 400) = ⟨173, 173, 0, 0, 0, 227⟩
    ∧ settlementOf (order418 6 8 1 none 1200) = ⟨1026, 1026, 0, 0, 0, 174⟩ := by decide +kernel

/-! ## Line rendering: the worked examples of 05_line_rendering.md -/

/-- The latched settings of the example. -/
def magenta : RenderSet := { gainM := 640, maxM := 600, tRef := 80, slope := 24, history := 40, decay := 48, weight := 3 }

theorem test_default_table : (State.reset.tones.getD 0 []).getD 200 0 = 803 ∧ (State.reset.tones.getD 11 []).getD 255 0 = 1023 := by decide

theorem test_one_dot_through_three_lines :
    [1500, 1918, 2063, 0].map (renderDot magenta .m [0, 803] (trimFactor 80 92 24) 1)
      = [(233, 1918), (168, 2063), (145, 2112), (467, 1401)] := by decide

theorem test_trim_at_various_temperatures :
    [92, 93, 80, 70].map (fun t => trimmedPulses (basePulses 803 640) (trimFactor 80 t 24)) = [467, 465, 502, 531] := by decide

theorem test_figures_at_their_limits :
    heatAfter 4000 48 15 900 = 4095 ∧ correctedPulses 40 1500 40 600 = 0 ∧ heatAfter 1500 48 3 0 = 1219 ∧ correctedPulses 467 0 40 400 = 400
    ∧ trimFactor 0 255 255 = 128 ∧ trimmedPulses 502 128 = 251 ∧ trimFactor 255 0 255 = 384 ∧ trimmedPulses 1022 384 = 1533
    ∧ basePulses 0 640 = 0 := by decide

theorem test_overcoat_lines :
    (overcoatLine 301 .matte 0).take 3 = [301, 150, 301] ∧ (overcoatLine 301 .matte 1).take 2 = [150, 301]
    ∧ (overcoatLine 301 .glossy 1).take 2 = [301, 301] := by decide +kernel

theorem test_proof_addresses : proofAddress 0 600 .c 10 = 3097600 ∧ proofAddress 0 600 .o 599 = 6141440 := by decide

/-! ## Print scheduling: the worked examples of 04_print_scheduling.md -/

theorem test_check_word : checkWord [201419] = 60724 ∧ (201419 + checkWord [201419]) % 65536 = 65535 := by decide

/-! ## The exchange region: the worked examples of 09_the_exchange_region.md -/

/-- The five candidates of the scan: slot, kind, sequence and order. -/
def candidates : List Header := [⟨3, 2, 65534, 418⟩, ⟨5, 14, 2, 0⟩, ⟨9, 10, 65535, 502⟩, ⟨12, 3, 0, 502⟩, ⟨20, 3, 1, 418⟩]

/-- The slots in the order a scan treats its candidates. -/
def treated : Nat → List Header → List Nat
  | 0, _ => []
  | k + 1, l =>
    match nextCandidate l with
    | some h => h.slot :: treated k (l.erase h)
    | none => []

theorem test_scan_order : treated 6 candidates = [3, 9, 12, 20, 5] := by decide

theorem test_order_fence :
    (pastFence 3 (candidates.filter fun h => h.seq < 3) [502]).map (fun x => x.1.slot) = some 20 := by decide

theorem test_half_circle_tie :
    nextCandidate [⟨31, 2, 32868, 0⟩, ⟨30, 2, 100, 0⟩] = some ⟨30, 2, 100, 0⟩ := by decide

theorem test_notify_threshold : ({ logSize := 64, notify := 2 } : Settings).threshold = 16 := by decide

/-! ## Host memory access: the worked example of 10_host_memory_access.md -/

/-- The lengths of the bursts a request is cut into. -/
def bursts : Nat → Request → List Nat
  | 0, _ => []
  | k + 1, r => if r.moved < r.length then r.burst :: bursts k { r with moved := r.moved + r.burst } else []

theorem test_source_line_bursts :
    bursts 12 { tag := .source 0, address := 8192, length := 3840 } = [512, 512, 512, 512, 512, 512, 512, 256]
    ∧ bursts 12 { tag := .source 0, address := 8000, length := 600 } = [192, 408] := by decide

/-- The requests of the example, with a ring of some lines. -/
def lane (fill last : Nat) (urgentLast : Fin 2) : State :=
  { State.reset with
    renderers := ⟨{ activity := .print, ring := List.replicate fill ⟨true, []⟩ }, {}⟩
    mover :=
      { requests := [{ tag := .source 0, address := 8192, length := 3840 }, { tag := .block 2, address := 0, length := 512, write := some [] },
                     { tag := .record, address := 0, length := 31, write := some [] }]
        lastPlace := last, lastUrgent := urgentLast } }

theorem test_grant_choices :
    (lane 6 8 1).nextClient = some (9, none) ∧ (lane 6 9 1).nextClient = some (3, none) ∧ (lane 5 3 1).nextClient = some (7, none)
    ∧ (lane 4 7 1).nextClient = some (9, some 0) ∧ (lane 4 7 0).nextClient = some (9, some 0) := by decide

/-! ## Counters: the worked example of 11_counters_loopbacks_and_test.md -/

theorem test_report_212 :
    let counts : List Nat := [0, 0, 37, 1, 0, 0, 0, 0, 2, 0, 0, 0, 5, 0, 3, 1]
    let s : State :=
      { State.reset with
        counters := { counters := counts.map fun n => { value := n } }
        renderers := ⟨{ margin := 3 }, { margin := 11 }⟩ }
    s.reportParts.map Prod.fst = [[0, 0, 37, 1, 0, 0, 0, 0], [2, 0, 3, 11, 0, 0, 5, 0], [3, 1, 0, 0, 0, 0, 0, 0]] := by decide

/-! ## Formats -/

/-- The two checks on the digits 1 to 9; the expected words are the published ones of these two checks, not the spec's (PRESUMED). -/
theorem test_checks :
    let digits : List Byte := [49, 50, 51, 52, 53, 54, 55, 56, 57]
    cardCheck digits = 0x31C3 ∧ tenderCheck digits = 0x29B1 := by decide +kernel

theorem test_byte_orders : leBytes 4 0x01020304 = [4, 3, 2, 1] ∧ beBytes 4 0x01020304 = [1, 2, 3, 4] ∧ ofLE [2, 1] = 258 ∧ ofBE [1, 2] = 258 := by
  decide

/-- A HOLD_REQ is 12 bytes long (07_tender_link.md). -/
theorem test_hold_frame_length : (frameBytes 1 1 (beBytes 2 418 ++ beBytes 4 626) false).length = 12 := by decide

/-- The second extent of a CARD_READ body: its destination stands 8 bytes into the entry (12.4). -/
theorem test_extent_layout : extentAt ((List.range 48).map (BitVec.ofNat 8)) 1 = { start := 0x23222120, count := 0x2524, dest := 0x2F2E2D2C2B2A2928 } := by
  decide +kernel

/-- In a QUIET loop the line stays idle, while the receiver hears the part's own frame (R201). -/
theorem test_quiet_line :
    ({ tx := some { what := .test, bytes := [0xC3#8], started := 0 }, loopOn := true, quiet := true : Tender }).lineOutput = none
    ∧ ({ tx := some { what := .test, bytes := [0xC3#8], started := 0 }, loopOn := true : Tender }).lineOutput = some [0xC3#8] := by decide

/-- No row of the opcode table has bits. -/
theorem test_no_word_spells_a_command : decodeTableWord 32 1 = none ∧ State.reset.withFetchWord 32 1 = State.reset := by decide +kernel

/-! ## Commands from a state to the next -/

/-- A field of the state a command leaves. -/
def seen {α : Type} (c : Instr) (s : State) (f : State → α) : Option α :=
  match step { s with pending := [c] } with
  | .next u => some (f u)
  | .fault _ | .refused _ => none

/-- Order 90 of 08_cash_acceptor.md, bound with 1,000 cents credited against 1,026. -/
def counting : State :=
  { calmPart with
    orders := [{ number := 90, station := 0, cls := .standard, profile := 0, finish := .glossy, state := .funding, quote := some 1026, cash := 1000
                 cashBound := true, items := [copiesOf 0 1], lastActivity := 0 }]
    cash := { calmPart.cash with sampling := true, phase := .bound, bound := 90, seen := 1000, need := 1026, inhibit := false } }

theorem test_eleventh_pulse :
    seen (.cashPulseCompleted 62) counting (fun u => (u.cash.list, u.cash.seen, u.cash.inhibit)) = some ([.credit (some 90) 1], 1000, true) := by
  decide

theorem test_eleventh_pulse_credited :
    seen .cashCreditApplied { counting with cash := { counting.cash with list := [.credit (some 90) 1] } }
      (fun u => (u.orders.map fun o => (o.cash, o.state), u.cash.phase, u.cash.windowEnd, u.cash.inhibit))
      = some ([(1100, .funded)], .window, some 10500, true) := by decide

theorem test_stray_pulse :
    seen .cashStrayApplied (withCash fun c => { c with sampling := true, list := [.credit none 1] })
      (fun u => (u.exch.outcomes.map fun r => r.payload, (u.counters.counters.getD 14 {}).value))
      = some ([.cash .stray 1 100 0 (some .noBinding) true], 1) := by decide

/-- A capture resolved for less (02_quotes_and_settlement.md): captured 500, shortfall 92. -/
theorem test_capture_resolved_for_less :
    seen (.orderResolve ⟨5, 321, 418⟩ 3 0 500)
      { calmPart with
        orders := [{ order418 6 7 1 (some 626) 400 with
                     state := .unresolved, charge := some 992, surplus := some 0
                     unresolved := some { kind := .capture, amount := 592, seq := 4, cardPart := 592, prior := .settling } }] }
      (fun u => (u.orders, u.exch.outcomes.map fun r => r.payload))
      = some ([], [.orderClosed .completed 992 500 0 92 0]) := by decide

/-- A closed loop's first test frame is sent with its CRC inverted (11_counters_loopbacks_and_test.md): one frame error, no echo. -/
theorem test_inverted_echo :
    seen .transmitEnd
      (withTender fun t =>
        { t with
          listening := true, loopOn := true, quiet := true, testSend := some ⟨tk, 3, 1⟩
          tx := some { what := .test, bytes := frameBytes 0 0x04 [0] true, started := 9990 } })
      (fun u => ((u.counters.counters.getD 10 {}).value, u.tender.echo, u.tender.tx)) = some (1, 0, none) := by decide +kernel

/-- The first pulse run that is a credit is 20 samples long, the last 150 (R159). -/
theorem test_pulse_classes :
    [19, 20, 150, 151].map (fun n => seen (.cashPulseCompleted n) counting fun u => u.cash.list.length)
      = [some 0, some 1, some 1, some 0] := by decide

theorem test_open_then_duplicate :
    seen (.orderOpen tk 1 0 2 1) calmPart (fun u => u.exch.completions.map fun e => e.code) = some [.ok]
    ∧ seen (.orderOpen tk 1 0 2 1) (withOrder (ord .opened)) (fun u => u.exch.completions.map fun e => e.code) = some [.dupOrder] := by decide

/-! ## The hypotheses of the statements are met -/

theorem witness_StepRunsFrontCommand : ∃ (c : Instr) (rest : List Instr) (s : State),
    s.pending = c :: rest :=
  ⟨(.orderQuote tk), ([.run]), ({ withOrder (ord .opened) with pending := [.orderQuote tk, .run] }), by decide⟩

theorem witness_ControlRunAndStop_1 : ∃ (s : State),
    s.quiet ∧ (s.exch.part = PartState.reset ∨ s.exch.part = PartState.stopped) :=
  ⟨(withExch fun x => { x with part := .stopped }), by decide⟩

theorem witness_ControlRunAndStop_2 : ∃ (s : State),
    s.quiet ∧ s.exch.part ≠ PartState.reset ∧ s.exch.part ≠ PartState.stopped :=
  ⟨(calmPart), by decide⟩

theorem witness_ControlRunAndStop_3 : ∃ (s : State),
    s.quiet ∧ s.exch.part = PartState.running ∧ (∀ (n : Fin 4), (s.slots.get n).queue = []) :=
  ⟨(withExch fun x => { x with part := .running }), by decide⟩

theorem witness_ControlRunAndStop_4 : ∃ (s : State),
    s.quiet ∧ s.exch.part = PartState.starting :=
  ⟨(withExch fun x => { x with part := .starting }), by decide⟩

theorem witness_ControlRunAndStop_5 : ∃ (s : State),
    s.quiet ∧ s.exch.part ≠ PartState.running ∧ s.exch.part ≠ PartState.starting :=
  ⟨(withExch fun x => { x with part := .halted }), by decide⟩

theorem witness_BaseAndIdleWrites_1_a : ∃ (v : Word32) (s : State),
    s.exch.part = PartState.reset :=
  ⟨(0x12345678#32), (withExch fun x => { x with part := .reset }), by decide⟩

theorem witness_BaseAndIdleWrites_2_a : ∃ (v : Word32) (s : State),
    s.exch.part = PartState.reset :=
  ⟨(0x12345678#32), (withExch fun x => { x with part := .reset }), by decide⟩

theorem witness_BaseAndIdleWrites_3_b : ∃ (v : Word32) (s : State),
    s.exch.part ≠ PartState.reset :=
  ⟨(0x12345678#32), (withExch fun x => { x with part := .stopped }), by decide⟩

theorem witness_BaseAndIdleWrites_4_b : ∃ (v : Word32) (s : State),
    s.exch.part ≠ PartState.reset :=
  ⟨(0x12345678#32), (withExch fun x => { x with part := .stopped }), by decide⟩

theorem witness_LogLingerAnnounces : ∃ (s : State),
    s.quiet ∧ 0 < s.exch.unannounced ∧ reached s.clock (s.exch.firstUnannounced + s.exch.settings.linger) = true :=
  ⟨(withExch fun x => { x with unannounced := 2, firstUnannounced := 9000 }), by decide⟩

theorem witness_RefreshApplied : ∃ (t : Ticket) (b : Bool) (x : Settings) (l : List Nat) (s : State),
    s.calm 1 ∧ s.exch.setupReady = some { cause := SetupCause.refresh t, bothClasses := b, settings := x, clamped := l } ∧ s.exch.refreshes = [] ∧ x.scanInterval = s.exch.settings.scanInterval ∧ x.notify = s.exch.settings.notify ∧ x.linger = s.exch.settings.linger :=
  ⟨(tk), (false), ({ calmPart.exch.settings with taxRate := 825 }), ([9, 12]), (withExch fun x => { x with setupReady := some (ready (.refresh tk) false [9, 12]), refreshes := [] }), by decide⟩

theorem witness_FirstRunning : ∃ (x : Settings) (l : List Nat) (s : State),
    s.calm 1 ∧ s.exch.part = PartState.starting ∧ s.exch.setupReady = some { cause := SetupCause.run, bothClasses := true, settings := x, clamped := l } ∧ s.exch.stopRemembered = false ∧ s.exch.refreshes = [] ∧ s.exch.unannounced = 0 ∧ s.exch.logWriter = LogWriter.idle ∧ s.exch.scan = Scan.idle ∧ (∀ (e : Fin 2), (s.ports.get e).state = EngineState.offline ∧ (s.ports.get e).offered = false) :=
  ⟨({ calmPart.exch.settings with taxRate := 825 }), ([9]), ({ withExch (fun x => { x with part := .starting, setupReady := some (ready .run true [9]), ranOnce := false, refreshes := [], unannounced := 0, logWriter := .idle, stopRemembered := false }) with ports := ⟨{}, {}⟩ }), by decide⟩

theorem witness_OldestProducerServed_1_a : ∃ (j : Job) (rest : List Job) (s : State),
    s.waiting = j :: rest ∧ (State.attempt j { s with waiting := rest }).occupied ≤ 16 :=
  ⟨(⟨[], .cmd (.cardSettleEnd 1)⟩), ([⟨[], .cmd .linkSilence⟩]), ({ withSlot (fun x => { x with state := .settled, since := 9000 }) with waiting := ⟨[], .cmd (.cardSettleEnd 1)⟩ :: [⟨[], .cmd .linkSilence⟩], exch := { calmPart.exch with outcomes := List.replicate 15 outcome, reservedPlaces := 0 } }), by decide⟩

theorem witness_RecordWritten_3_c : ∃ (d : List Byte) (g : Grant) (r : Request) (s : State) (n : Nat) (fence : List Nat) (h : Header) (b : List Byte),
    s.quiet ∧ s.exch.part = PartState.running ∧ s.lastBurst g r ∧ r.tag = ReqTag.taken n ∧ s.exch.scan = Scan.taking [] fence (some { header := h, body := some b }) ∧ s.exch.rescanOwed = false :=
  ⟨([4#8]), ({ place := ((.taken 5) : ReqTag).place, address := 66560, length := 1, write := some [1#8], issued := 9000 }), ({ tag := (.taken 5), address := 66560, length := 1, write := some [1#8] }), ({ withExch (fun x => { x with part := .running, outcomes := [outcome], unannounced := 3, firstUnannounced := 9990, logPos := 255, scan := .taking [] [4] (some { header := ⟨5, 1, 321, 7⟩, body := some [1#8, 2#8] }), rescanOwed := false, completions := [ending], reservedPlaces := 1, inFlight := [5, 9], settings := { x.settings with notify := 1, logSize := 256, linger := 100 } }) with mover := granted (.taken 5) (some [1#8]), orders := [ord .funding] }), (5), ([4]), (⟨5, 1, 321, 7⟩), ([1#8, 2#8]), by decide⟩

theorem witness_RecordWritten_3_d : ∃ (d : List Byte) (g : Grant) (r : Request) (s : State) (n : Nat) (fence : List Nat) (h : Header) (b : List Byte),
    s.quiet ∧ s.exch.part = PartState.running ∧ s.lastBurst g r ∧ r.tag = ReqTag.taken n ∧ s.exch.scan = Scan.taking [] fence (some { header := h, body := some b }) ∧ s.exch.rescanOwed = false :=
  ⟨([4#8]), ({ place := ((.taken 5) : ReqTag).place, address := 66560, length := 1, write := some [1#8], issued := 9000 }), ({ tag := (.taken 5), address := 66560, length := 1, write := some [1#8] }), ({ withExch (fun x => { x with part := .running, outcomes := [outcome], unannounced := 3, firstUnannounced := 9990, logPos := 255, scan := .taking [] [4] (some { header := ⟨5, 18, 321, 7⟩, body := some [1#8, 2#8] }), rescanOwed := false, completions := [ending], reservedPlaces := 1, inFlight := [5, 9], settings := { x.settings with notify := 1, logSize := 256, linger := 100 } }) with mover := granted (.taken 5) (some [1#8]), orders := [ord .funding] }), (5), ([4]), (⟨5, 18, 321, 7⟩), ([1#8, 2#8]), by decide⟩

theorem witness_RecordWritten_3_e : ∃ (d : List Byte) (g : Grant) (r : Request) (s : State) (n : Nat) (fence : List Nat) (h : Header) (b : List Byte),
    s.quiet ∧ s.exch.part = PartState.running ∧ s.lastBurst g r ∧ r.tag = ReqTag.taken n ∧ s.exch.scan = Scan.taking [] fence (some { header := h, body := some b }) ∧ s.exch.rescanOwed = false :=
  ⟨([4#8]), ({ place := ((.taken 5) : ReqTag).place, address := 66560, length := 1, write := some [1#8], issued := 9000 }), ({ tag := (.taken 5), address := 66560, length := 1, write := some [1#8] }), ({ withExch (fun x => { x with part := .running, outcomes := [outcome], unannounced := 3, firstUnannounced := 9990, logPos := 255, scan := .taking [] [4] (some { header := ⟨5, 19, 321, 7⟩, body := some [1#8, 2#8] }), rescanOwed := false, completions := [ending], reservedPlaces := 1, inFlight := [5, 9], settings := { x.settings with notify := 1, logSize := 256, linger := 100 } }) with mover := granted (.taken 5) (some [1#8]), orders := [ord .funding] }), (5), ([4]), (⟨5, 19, 321, 7⟩), ([1#8, 2#8]), by decide⟩

theorem witness_RecordWritten_3_f : ∃ (d : List Byte) (g : Grant) (r : Request) (s : State) (n : Nat) (fence : List Nat) (h : Header) (b : List Byte),
    s.quiet ∧ s.exch.part = PartState.running ∧ s.lastBurst g r ∧ r.tag = ReqTag.taken n ∧ s.exch.scan = Scan.taking [] fence (some { header := h, body := some b }) ∧ s.exch.rescanOwed = false :=
  ⟨([4#8]), ({ place := ((.taken 5) : ReqTag).place, address := 66560, length := 1, write := some [1#8], issued := 9000 }), ({ tag := (.taken 5), address := 66560, length := 1, write := some [1#8] }), ({ withExch (fun x => { x with part := .running, outcomes := [outcome], unannounced := 3, firstUnannounced := 9990, logPos := 255, scan := .taking [] [4] (some { header := ⟨5, 0, 321, 7⟩, body := some [1#8, 2#8] }), rescanOwed := false, completions := [ending], reservedPlaces := 1, inFlight := [5, 9], settings := { x.settings with notify := 1, logSize := 256, linger := 100 } }) with mover := granted (.taken 5) (some [1#8]), orders := [ord .funding] }), (5), ([4]), (⟨5, 0, 321, 7⟩), ([1#8, 2#8]), by decide⟩

theorem witness_RecordWritten_4_g : ∃ (d : List Byte) (g : Grant) (r : Request) (s : State) (n : Nat),
    s.quiet ∧ s.exch.part = PartState.running ∧ s.lastBurst g r ∧ r.tag = ReqTag.result n :=
  ⟨([4#8]), ({ place := ((.result 5) : ReqTag).place, address := 66560, length := 1, write := some [1#8], issued := 9000 }), ({ tag := (.result 5), address := 66560, length := 1, write := some [1#8] }), ({ withExch (fun x => { x with part := .running, outcomes := [outcome], unannounced := 3, firstUnannounced := 9990, logPos := 255, scan := .idle, rescanOwed := false, completions := [ending], reservedPlaces := 1, inFlight := [5, 9], settings := { x.settings with notify := 1, logSize := 256, linger := 100 } }) with mover := granted (.result 5) (some [1#8]), orders := [ord .funding] }), (5), by decide⟩

theorem witness_RecordWritten_5_h : ∃ (d : List Byte) (g : Grant) (r : Request) (s : State) (n : Nat),
    s.quiet ∧ s.exch.part = PartState.running ∧ s.lastBurst g r ∧ r.tag = ReqTag.doneState n :=
  ⟨([4#8]), ({ place := ((.doneState 5) : ReqTag).place, address := 66560, length := 1, write := some [1#8], issued := 9000 }), ({ tag := (.doneState 5), address := 66560, length := 1, write := some [1#8] }), ({ withExch (fun x => { x with part := .running, outcomes := [outcome], unannounced := 3, firstUnannounced := 9990, logPos := 255, scan := .idle, rescanOwed := false, completions := [ending], reservedPlaces := 1, inFlight := [5, 9], settings := { x.settings with notify := 1, logSize := 256, linger := 100 } }) with mover := granted (.doneState 5) (some [1#8]), orders := [ord .funding] }), (5), by decide⟩

theorem witness_RecordWritten_6_i : ∃ (d : List Byte) (g : Grant) (r : Request) (s : State) (n : Nat) (c : Ending) (rest : List Ending),
    s.quiet ∧ s.exch.part = PartState.running ∧ s.lastBurst g r ∧ r.tag = ReqTag.owner n ∧ s.exch.completions = c :: rest ∧ s.exch.reservedPlaces ≠ 0 :=
  ⟨([4#8]), ({ place := ((.owner 5) : ReqTag).place, address := 66560, length := 1, write := some [1#8], issued := 9000 }), ({ tag := (.owner 5), address := 66560, length := 1, write := some [1#8] }), ({ withExch (fun x => { x with part := .running, outcomes := [outcome], unannounced := 3, firstUnannounced := 9990, logPos := 255, scan := .idle, rescanOwed := false, completions := [ending], reservedPlaces := 1, inFlight := [5, 9], settings := { x.settings with notify := 1, logSize := 256, linger := 100 } }) with mover := granted (.owner 5) (some [1#8]), orders := [ord .funding] }), (5), (ending), ([]), by decide⟩

theorem witness_OrderOpened : ∃ (t : Ticket) (station : Nat) (cls : Nat) (profile : Nat) (finish : Nat) (s : State),
    s.calm 1 ∧ s.takes t ∧ station ≤ 3 ∧ cls ≤ 1 ∧ profile ≤ 3 ∧ finish ≤ 1 ∧ t.order ≠ 0 ∧ s.findOrder t.order = none ∧ s.orders.length < 16 :=
  ⟨(tk), (3), (1), (2), (1), (calmPart), by decide⟩

theorem witness_ItemsAdded : ∃ (t : Ticket) (items : List ItemDesc) (o : Order) (s : State),
    s.calm 0 ∧ s.takes t ∧ s.findOrder t.order = some o ∧ o.state = OrderState.opened ∧ items ≠ [] ∧ items.length ≤ 8 ∧ o.items.length + items.length ≤ 24 ∧ (∀ d ∈ items, d.product ≤ 31 ∧ d.copies ≠ 0 ∧ d.preStaged ≤ 1 ∧ d.address + 9216000 ≤ 18446744073709551616) :=
  ⟨(tk), ([{ address := 4096, product := 3, copies := 120, preStaged := 1 }]), (ord .opened), (withOrder (ord .opened)), by decide⟩

theorem witness_OrderQuoted : ∃ (t : Ticket) (o : Order) (us : List Nat) (subtotal : Nat) (rate : Nat) (quote : Nat) (s : State),
    s.calm 1 ∧ s.takes t ∧ s.findOrder t.order = some o ∧ o.state = OrderState.opened ∧ o.items ≠ [] ∧ quoteOf s.products s.exch.settings.taxRate o.items = QuoteAnswer.priced us subtotal rate quote ∧ quote ≠ 0 :=
  ⟨(tk), (ord .opened), ([20, 20]), (200), (825), (217), ({ withOrder (ord .opened) with exch := { calmPart.exch with settings := { calmPart.exch.settings with taxRate := 825 } }, products := { valid := true, lines := 600, min1 := 1, price1 := 29, min2 := 10, price2 := 20, min3 := 50, price3 := 15 } :: calmPart.products.tail }), by decide⟩

theorem witness_QuoteFigures_1_a : ∃ (products : List Product) (rate : Nat) (items : List Item) (k : Nat),
    (∃ i, items[k]? = some i ∧ (products.getD i.product { }).valid = false) ∧ (∀ j < k, ∀ (i : Item), items[j]? = some i → (products.getD i.product { }).valid = true) :=
  ⟨({ valid := true, lines := 600, min1 := 1, price1 := 29, min2 := 10, price2 := 20, min3 := 50, price3 := 15 } :: List.replicate 31 {}), (825), ([item, { item with product := 9 }]), (1), by decide⟩

theorem witness_QuoteFigures_3_a : ∃ (t : Ticket) (o : Order) (s : State) (code : ResultCode) (k : Nat),
    s.calm 1 ∧ s.takes t ∧ s.findOrder t.order = some o ∧ o.state = OrderState.opened ∧ o.items ≠ [] ∧ quoteOf s.products s.exch.settings.taxRate o.items = QuoteAnswer.refused code k :=
  ⟨(tk), (ord .opened), ({ withOrder (ord .opened) with exch := { calmPart.exch with settings := { calmPart.exch.settings with taxRate := 825 } }, products := { valid := false, lines := 600, min1 := 1, price1 := 29, min2 := 10, price2 := 20, min3 := 50, price3 := 15 } :: calmPart.products.tail }), (.noPrice), (0), by decide⟩

theorem witness_QuoteFigures_2_b : ∃ (products : List Product) (rate : Nat) (items : List Item),
    (∀ i ∈ items, (products.getD i.product { }).valid = true) :=
  ⟨({ valid := true, lines := 600, min1 := 1, price1 := 29, min2 := 10, price2 := 20, min3 := 50, price3 := 15 } :: List.replicate 31 {}), (825), ([item, item]), by decide⟩

theorem witness_QuoteFigures_4_b : ∃ (t : Ticket) (o : Order) (s : State) (us : List Nat) (subtotal : Nat) (rate : Nat) (quote : Nat),
    s.calm 1 ∧ s.takes t ∧ s.findOrder t.order = some o ∧ o.state = OrderState.opened ∧ o.items ≠ [] ∧ quoteOf s.products s.exch.settings.taxRate o.items = QuoteAnswer.priced us subtotal rate quote ∧ quote ≠ 0 :=
  ⟨(tk), (ord .opened), ({ withOrder (ord .opened) with exch := { calmPart.exch with settings := { calmPart.exch.settings with taxRate := 825 } }, products := { valid := true, lines := 600, min1 := 1, price1 := 29, min2 := 10, price2 := 20, min3 := 50, price3 := 15 } :: calmPart.products.tail }), ([20, 20]), (200), (825), (217), by decide⟩

theorem witness_UnpaidOrderClosed_1 : ∃ (n : Nat) (o : Order) (s : State) (t : Ticket),
    s.calm 1 ∧ s.findOrder n = some o ∧ o.cash = 0 ∧ o.cashBound = false ∧ (∀ (k : Fin 4), ∀ r ∈ (s.slots.get k).queue, r.order ≠ n) ∧ s.takes t ∧ t.order = n ∧ (o.state = OrderState.opened ∨ o.state = OrderState.quoted) :=
  ⟨(7), (ord .quoted), ({ withOrder (ord .quoted) with exch := { calmPart.exch with settings := { calmPart.exch.settings with abandon := 5 } } }), (tk), by decide⟩

theorem witness_UnpaidOrderClosed_2 : ∃ (n : Nat) (o : Order) (s : State),
    s.calm 1 ∧ s.findOrder n = some o ∧ o.cash = 0 ∧ o.cashBound = false ∧ (∀ (k : Fin 4), ∀ r ∈ (s.slots.get k).queue, r.order ≠ n) ∧ o.state = OrderState.quoted ∧ s.exch.settings.abandon ≠ 0 ∧ reached s.clock (o.lastActivity + 1000 * s.exch.settings.abandon) = true :=
  ⟨(7), (ord .quoted), ({ withOrder (ord .quoted) with exch := { calmPart.exch with settings := { calmPart.exch.settings with abandon := 5 } } }), by decide⟩

theorem witness_ItemDropped : ∃ (t : Ticket) (item : Nat) (o : Order) (i : Item) (s : State),
    s.calm 0 ∧ s.takes t ∧ s.findOrder t.order = some o ∧ (o.state = OrderState.quoted ∨ o.state = OrderState.funding ∨ o.state = OrderState.unresolved) ∧ o.items[item]? = some i :=
  ⟨(tk), (1), (ord .funding), (item), (withOrder (ord .funding)), by decide⟩

theorem witness_CaptureResolved : ∃ (t : Ticket) (reference : Nat) (amount : Nat) (o : Order) (r : UnresolvedRequest) (s : State),
    s.calm 1 ∧ s.takes t ∧ s.findOrder t.order = some o ∧ o.state = OrderState.unresolved ∧ o.unresolved = some r ∧ r.kind = RequestKind.capture ∧ amount ≤ r.amount :=
  ⟨(tk), (5), (60), ({ ord .unresolved with unresolved := some { kind := .capture, amount := 90, seq := 12, cardPart := 100, prior := .settling } }), ({ kind := .capture, amount := 90, seq := 12, cardPart := 100, prior := .settling }), ({ withOrder { ord .unresolved with unresolved := some { kind := .capture, amount := 90, seq := 12, cardPart := 100, prior := .settling } } with tender := { calmPart.tender with reservedSeqs := [3, 12] } }), by decide⟩

theorem witness_PricesAsked_1_a : ∃ (t : Ticket) (address : Nat) (s : State),
    s.quiet ∧ s.admits t ∧ 18446744073709551616 < address + 768 :=
  ⟨(tk0), (18446744073709550849), ({ calmPart with priceLoads := [] }), by decide⟩

theorem witness_PricesAsked_2_b : ∃ (t : Ticket) (address : Nat) (s : State),
    s.quiet ∧ s.admits t ∧ address + 768 ≤ 18446744073709551616 ∧ s.priceLoads = [] :=
  ⟨(tk0), (18446744073709550848), ({ calmPart with priceLoads := [] }), by decide⟩

theorem witness_CardPresence_1_a : ∃ (n : Fin 4) (s : State),
    s.calm 1 ∧ s.exch.ranOnce = true ∧ (s.slots.get n).waiting = none ∧ (s.slots.get n).declared = false ∧ (s.slots.get n).state = SlotState.empty :=
  ⟨(1), (withSlot fun x => { x with declared := false, state := .empty, waiting := none }), by decide⟩

theorem witness_CardPresence_2_b : ∃ (n : Fin 4) (s : State),
    s.calm 1 ∧ s.exch.ranOnce = true ∧ (s.slots.get n).waiting = none ∧ (s.slots.get n).declared = true ∧ (s.slots.get n).state = SlotState.ready ∧ (s.slots.get n).queue = [] ∧ (s.slots.get n).writing = false :=
  ⟨(1), (withSlot fun x => { x with declared := true, state := .ready, waiting := none, queue := [], writing := false, capacity := 4096, power := true }), by decide⟩

theorem witness_CardTimers_1_a : ∃ (n : Fin 4) (s : State),
    s.calm 1 ∧ (s.slots.get n).state = SlotState.settled ∧ (s.slots.get n).waiting ≠ some Declaration.removal ∧ reached s.clock ((s.slots.get n).since + 20) = true :=
  ⟨(1), (withSlot fun x => { x with state := .settled, since := 9980, waiting := none }), by decide⟩

theorem witness_CardTimers_2_b : ∃ (n : Fin 4) (s : State),
    s.calm 0 ∧ (s.slots.get n).state = SlotState.identifying ∧ (s.slots.get n).request = some CardRequest.identify ∧ (s.slots.get n).attempts < 3 ∧ reached s.clock ((s.slots.get n).since + 100) = true :=
  ⟨(1), (withSlot fun x => { x with state := .identifying, attempts := 2, request := some .identify, since := 9900 }), by decide⟩

theorem witness_CardTimers_3_c : ∃ (n : Fin 4) (s : State) (r : ReadEntry) (q : List ReadEntry) (p : ReadPos) (e : Extent) (b : Nat),
    s.calm 0 ∧ (s.slots.get n).state = SlotState.reading ∧ (s.slots.get n).queue = r :: q ∧ (s.slots.get n).pos = some p ∧ r.extents[p.extent]? = some e ∧ p.attempt < 4 ∧ (s.slots.get n).request = some (CardRequest.block b) ∧ reached s.clock ((s.slots.get n).since + 50) = true :=
  ⟨(1), (withSlot fun x => { readingSlot x with since := 9950 }), (readOf), ([]), ({ extent := 0, block := 1, attempt := 2 }), (ext), (11), by decide⟩

theorem witness_CardIdentified : ∃ (n : Fin 4) (capacity : Nat) (check : Nat) (s : State),
    s.calm 1 ∧ (s.slots.get n).state = SlotState.identifying ∧ (s.slots.get n).request = some CardRequest.identify ∧ (s.slots.get n).waiting ≠ some Declaration.removal ∧ cardCheck (beBytes 4 capacity) = check ∧ capacity ≠ 0 :=
  ⟨(1), (70000), (cardCheck (beBytes 4 70000)), (withSlot fun x => { x with state := .identifying, attempts := 2, request := some .identify, since := 9990 }), by decide⟩

theorem witness_CardReadBegins_1_a : ∃ (t : Ticket) (n : Fin 4) (e : Extent) (es : List Extent) (s : State),
    s.calm 1 ∧ s.exch.part = PartState.running ∧ s.takes t ∧ t.order = 0 ∧ (State.handedOn t s = true ∨ s.readPlaces n < 4) ∧ (∀ h ∈ s.exch.handed, h.header.ticket = t → h.read = some (ReadCheck.passed n)) ∧ (s.slots.get n).state = SlotState.ready ∧ (s.slots.get n).waiting ≠ some Declaration.removal ∧ (s.slots.get n).queue = [] ∧ es.length ≤ 7 ∧ (∀ x ∈ e :: es, x.count ≠ 0 ∧ x.start + x.count ≤ (s.slots.get n).capacity ∧ x.dest + 512 * x.count ≤ 18446744073709551616) :=
  ⟨(tk0), (1), (ext), ([]), ({ withSlot (fun x => { x with state := .ready, declared := true, capacity := 13, queue := [] }) with exch := { calmPart.exch with part := .running, handed := [] } }), by decide⟩

theorem witness_CardReadBegins_2_a : ∃ (slot : Nat) (item : Nat) (es : List Extent) (w : Handed) (rest : List Handed) (code : ResultCode) (detail : Nat) (s : State),
    s.calm 0 ∧ s.exch.handed = w :: rest ∧ w.read = some (ReadCheck.refused code detail) :=
  ⟨(2), (255), ([ext]), (⟨⟨5, 10, 321, 0⟩, [1#8], 77, some (.refused .cardAbsent 2)⟩), ([]), (.cardAbsent), (2), ({ withSlot (fun x => { x with state := .ready, declared := true, capacity := 13, queue := [] }) with exch := { calmPart.exch with part := .running, handed := [⟨⟨5, 10, 321, 0⟩, [1#8], 77, some (.refused .cardAbsent 2)⟩] } }), by decide⟩

theorem witness_CardReadBegins_3_a : ∃ (t : Ticket) (n : Fin 4) (item : Nat) (es : List Extent) (s : State),
    State.handedOn t s = false ∧ 4 ≤ s.readPlaces n :=
  ⟨(tk), (1), (3), ([ext]), (withSlot fun x => { readingSlot x with queue := [readOf, readOf, readOf, readOf] }), by decide⟩

theorem witness_RunEvacuated_1_a : ∃ (t : Ticket) (e : Fin 2) (r : Run) (o : Order) (s : State),
    s.calm 1 ∧ s.admits t ∧ (s.ports.get e).state ≠ EngineState.printing ∧ (s.sched.get e).access = StackAccess.none ∧ (s.sched.get e).queue = [r] ∧ (s.sched.get e).stack = [] ∧ s.findOrder r.order = some o ∧ s.awaiting = [] ∧ o.state = OrderState.unresolved :=
  ⟨(tk), (1), (run), (ord .unresolved), ({ withOrder (ord .unresolved) with products := { media := 0 } :: { media := 1 } :: List.replicate 30 { media := 3 }, sched := ⟨{ calmPart.sched.zero with queue := [{ run with order := 33, cls := .standard }] }, { queue := [run] }⟩, ports := ⟨{ calmPart.ports.zero with state := .idle }, { state := .offline, media := some 0 }⟩, awaiting := [] }), by decide⟩

theorem witness_RunEvacuated_4_a : ∃ (d : List Byte) (e : Fin 2) (g : Grant) (q : Request) (pos : Nat) (a : Run) (why : SavedAs) (l : List DirEntry) (x : DirEntry) (s : State),
    s.calm 1 ∧ s.lastBurst g q ∧ q.tag = ReqTag.push e ∧ (s.sched.get e).access = StackAccess.push pos a why ∧ a.ending = false ∧ (s.sched.get e).stack = l ++ [x] ∧ pos = l.length ∧ x.void = false ∧ (∀ y ∈ l, y.void = false) ∧ (s.ports.get e).record = none ∧ s.exch.part = PartState.running ∧ (s.ports.get e).offered = true ∧ (s.sched.get e).queue = [] ∧ (s.sched.get e).active = none :=
  ⟨([]), (1), ({ place := 4, address := 66560, length := 64, write := some [1#8], issued := 9000 }), ({ tag := .push 1, address := 66560, length := 64, write := some [1#8], moved := 0 }), (1), ({ run with state := .blocked, awaited := some .funding }), (.parked), ([{ order := 9, check := 4, savedAs := .parked }]), ({ order := 7, check := 5, savedAs := .parked, awaited := some .funding }), ({ withPort (fun p => { p with state := .idle, record := none, offered := true, waitingPrint := none }) with sched := ⟨calmPart.sched.zero, { access := .push 1 { run with state := .blocked, awaited := some .funding } .parked, stack := [{ order := 9, check := 4, savedAs := .parked }, { order := 7, check := 5, savedAs := .parked, awaited := some .funding }] }⟩, mover := { requests := [{ tag := .push 1, address := 66560, length := 64, write := some [1#8], moved := 0 }], grant := some { place := 4, address := 66560, length := 64, write := some [1#8], issued := 9000 } } }), by decide⟩

theorem witness_RunEvacuated_6_a : ∃ (d : List Byte) (e : Fin 2) (g : Grant) (q : Request) (pos : Nat) (l : List DirEntry) (x : DirEntry) (s : State),
    s.calm 1 ∧ s.lastBurst g q ∧ q.tag = ReqTag.pop e ∧ g.write = none ∧ (s.sched.get e).access = StackAccess.pop pos ∧ (s.sched.get e).stack = l ++ [x] ∧ x.void = false ∧ (∀ y ∈ l, y.void = false) ∧ x.reprintItem = none ∧ s.exch.part = PartState.stopping ∧ (s.ports.get e).state = EngineState.idle ∧ (s.ports.get e).record = none ∧ (s.ports.get e).waitingPrint = none ∧ s.awaiting = [] ∧ (∀ (o : Order), s.findOrder x.order = some o → o.state = OrderState.unresolved) ∧ (frameOf (q.got ++ fit g.length d)).sum % 65536 = 65535 ∧ (frameOf (q.got ++ fit g.length d)).getD 31 0 = x.check ∧ (frameOf (q.got ++ fit g.length d)).getD 0 0 = x.order ∧ (s.sched.get e).active = none :=
  ⟨(run.frame), (1), ({ place := 4, address := 66560, length := 64, write := none, issued := 9000 }), ({ tag := .pop 1, address := 66560, length := 64 }), (1), ([{ order := 9, check := 4, savedAs := .parked }]), ({ order := 7, check := checkWord run.frameWords, savedAs := .stacked }), ({ withPort (fun p => { p with state := .idle, record := none, waitingPrint := none }) with orders := [ord .unresolved], awaiting := [], exch := { calmPart.exch with part := .stopping }, sched := ⟨calmPart.sched.zero, { access := .pop 1, heldDecision := false, heldTest := true, stack := [{ order := 9, check := 4, savedAs := .parked }, { order := 7, check := checkWord run.frameWords, savedAs := .stacked }] }⟩, mover := { requests := [{ tag := .pop 1, address := 66560, length := 64 }], grant := some { place := 4, address := 66560, length := 64, write := none, issued := 9000 } } }), by decide⟩

theorem witness_RunEvacuated_8_a : ∃ (d : List Byte) (e : Fin 2) (g : Grant) (q : Request) (pos : Nat) (l : List DirEntry) (x : DirEntry) (s : State),
    s.calm 1 ∧ s.lastBurst g q ∧ q.tag = ReqTag.pop e ∧ g.write = none ∧ (s.sched.get e).access = StackAccess.pop pos ∧ (s.sched.get e).stack = l ++ [x] ∧ x.void = false ∧ (∀ y ∈ l, y.void = false) ∧ x.reprintItem = none ∧ s.exch.part = PartState.stopping ∧ (s.ports.get e).state = EngineState.idle ∧ (s.ports.get e).record = none ∧ (s.ports.get e).waitingPrint = none ∧ s.awaiting = [] ∧ (∀ (o : Order), s.findOrder x.order = some o → o.state = OrderState.unresolved) :=
  ⟨(run.frame), (1), ({ place := 4, address := 66560, length := 64, write := none, issued := 9000 }), ({ tag := .pop 1, address := 66560, length := 64 }), (1), ([{ order := 9, check := 4, savedAs := .parked }]), ({ order := 7, check := checkWord run.frameWords, savedAs := .stacked }), ({ withPort (fun p => { p with state := .idle, record := none, waitingPrint := none }) with orders := [ord .unresolved], awaiting := [], exch := { calmPart.exch with part := .stopping }, sched := ⟨calmPart.sched.zero, { access := .pop 1, heldDecision := false, heldTest := true, stack := [{ order := 9, check := 4, savedAs := .parked }, { order := 7, check := checkWord run.frameWords, savedAs := .stacked }] }⟩, mover := { requests := [{ tag := .pop 1, address := 66560, length := 64 }], grant := some { place := 4, address := 66560, length := 64, write := none, issued := 9000 } } }), by decide⟩

theorem witness_RunEvacuated_2_b : ∃ (t : Ticket) (e : Fin 2) (r : Run) (o : Order) (s : State) (d : Fin 2) (i : Nat) (x : Item),
    s.calm 1 ∧ s.admits t ∧ (s.ports.get e).state ≠ EngineState.printing ∧ (s.sched.get e).access = StackAccess.none ∧ (s.sched.get e).queue = [r] ∧ (s.sched.get e).stack = [] ∧ s.findOrder r.order = some o ∧ s.awaiting = [] ∧ s.calm 2 ∧ d ≠ e ∧ (o.state = OrderState.funded ∨ o.state = OrderState.producing) ∧ r.kind < 4 ∧ (∀ k < 4, (State.modSched e (fun x => { active := x.active, stack := x.stack, access := x.access, heldDecision := x.heldDecision, heldTest := x.heldTest, heldArrival := x.heldArrival }) s).needsRun o k = decide (k = r.kind)) ∧ (s.ports.get d).state = EngineState.printing ∧ (s.ports.get d).record ≠ none ∧ (s.ports.get d).media = some r.kind ∧ (s.sched.get d).queue.length < 8 ∧ o.items[i]? = some x ∧ s.mediaOf x.product = r.kind ∧ (∀ j < i, ∀ (y : Item), o.items[j]? = some y → s.mediaOf y.product ≠ r.kind) :=
  ⟨(tk0), (1), (run), (ord .funded), ({ withOrder (ord .funded) with products := { media := 0 } :: { media := 1 } :: List.replicate 30 { media := 3 }, sched := ⟨{ calmPart.sched.zero with queue := [{ run with order := 33, cls := .standard }] }, { queue := [run] }⟩, ports := ⟨{ calmPart.ports.zero with state := .printing, record := some record, media := some 0 }, { state := .offline, media := some 0 }⟩, awaiting := [] }), (0), (0), (item), by decide⟩

theorem witness_RunEvacuated_7_b : ∃ (d : List Byte) (e : Fin 2) (g : Grant) (q : Request) (pos : Nat) (l : List DirEntry) (x : DirEntry) (s : State),
    s.calm 1 ∧ s.lastBurst g q ∧ q.tag = ReqTag.pop e ∧ g.write = none ∧ (s.sched.get e).access = StackAccess.pop pos ∧ (s.sched.get e).stack = l ++ [x] ∧ x.void = false ∧ (∀ y ∈ l, y.void = false) ∧ x.reprintItem = none ∧ s.exch.part = PartState.stopping ∧ (s.ports.get e).state = EngineState.idle ∧ (s.ports.get e).record = none ∧ (s.ports.get e).waitingPrint = none ∧ s.awaiting = [] ∧ (∀ (o : Order), s.findOrder x.order = some o → o.state = OrderState.unresolved) ∧ ¬((frameOf (q.got ++ fit g.length d)).sum % 65536 = 65535 ∧ (frameOf (q.got ++ fit g.length d)).getD 31 0 = x.check ∧ (frameOf (q.got ++ fit g.length d)).getD 0 0 = x.order) :=
  ⟨(List.replicate 64 1#8), (1), ({ place := 4, address := 66560, length := 64, write := none, issued := 9000 }), ({ tag := .pop 1, address := 66560, length := 64 }), (1), ([{ order := 9, check := 4, savedAs := .parked }]), ({ order := 7, check := checkWord run.frameWords, savedAs := .stacked }), ({ withPort (fun p => { p with state := .idle, record := none, waitingPrint := none }) with orders := [ord .unresolved], awaiting := [], exch := { calmPart.exch with part := .stopping }, sched := ⟨calmPart.sched.zero, { access := .pop 1, heldDecision := false, heldTest := true, stack := [{ order := 9, check := 4, savedAs := .parked }, { order := 7, check := checkWord run.frameWords, savedAs := .stacked }] }⟩, mover := { requests := [{ tag := .pop 1, address := 66560, length := 64 }], grant := some { place := 4, address := 66560, length := 64, write := none, issued := 9000 } } }), by decide⟩

theorem witness_RunEvacuated_3_c : ∃ (t : Ticket) (e : Fin 2) (r : Run) (o : Order) (s : State) (d : Fin 2),
    s.calm 1 ∧ s.admits t ∧ (s.ports.get e).state ≠ EngineState.printing ∧ (s.sched.get e).access = StackAccess.none ∧ (s.sched.get e).queue = [r] ∧ (s.sched.get e).stack = [] ∧ s.findOrder r.order = some o ∧ s.awaiting = [] ∧ s.calm 2 ∧ d ≠ e ∧ (o.state = OrderState.funded ∨ o.state = OrderState.producing) ∧ r.kind < 4 ∧ (∀ k < 4, (State.modSched e (fun x => { active := x.active, stack := x.stack, access := x.access, heldDecision := x.heldDecision, heldTest := x.heldTest, heldArrival := x.heldArrival }) s).needsRun o k = decide (k = r.kind)) ∧ (∀ (k : Fin 2), (s.ports.get k).state = EngineState.offline ∨ (s.ports.get k).state = EngineState.fault) :=
  ⟨(tk), (1), (run), (ord .producing), ({ withOrder (ord .producing) with products := { media := 0 } :: { media := 1 } :: List.replicate 30 { media := 3 }, sched := ⟨{ calmPart.sched.zero with queue := [{ run with order := 33, cls := .standard }] }, { queue := [run] }⟩, ports := ⟨{ calmPart.ports.zero with state := .fault }, { state := .offline, media := some 0 }⟩, awaiting := [] }), (0), by decide⟩

theorem witness_RunEvacuated_5_c : ∃ (d : List Byte) (e : Fin 2) (g : Grant) (q : Request) (pos : Nat) (a : Run) (why : SavedAs) (l : List DirEntry) (x : DirEntry) (s : State),
    s.calm 1 ∧ s.lastBurst g q ∧ q.tag = ReqTag.push e ∧ (s.sched.get e).access = StackAccess.push pos a why ∧ a.ending = false ∧ (s.sched.get e).stack = l ++ [x] ∧ pos = l.length ∧ x.void = false ∧ (∀ y ∈ l, y.void = false) ∧ (s.ports.get e).record = none ∧ why = SavedAs.parked ∧ x.awaited ≠ none ∧ (s.sched.get e).heldDecision = false ∧ (s.sched.get e).heldTest = false ∧ (s.sched.get e).heldArrival = false ∧ (s.ports.get e).state = EngineState.blocked :=
  ⟨([]), (1), ({ place := 4, address := 66560, length := 64, write := some [1#8], issued := 9000 }), ({ tag := .push 1, address := 66560, length := 64, write := some [1#8], moved := 0 }), (1), ({ run with state := .blocked, awaited := some .funding }), (.parked), ([{ order := 9, check := 4, savedAs := .parked }]), ({ order := 7, check := 5, savedAs := .parked, awaited := some .funding }), ({ withPort (fun p => { p with state := .blocked, record := none, offered := true, waitingPrint := none }) with sched := ⟨calmPart.sched.zero, { access := .push 1 { run with state := .blocked, awaited := some .funding } .parked, stack := [{ order := 9, check := 4, savedAs := .parked }, { order := 7, check := 5, savedAs := .parked, awaited := some .funding }] }⟩, mover := { requests := [{ tag := .push 1, address := 66560, length := 64, write := some [1#8], moved := 0 }], grant := some { place := 4, address := 66560, length := 64, write := some [1#8], issued := 9000 } } }), by decide⟩

theorem witness_EngineControlled_1_a : ∃ (t : Ticket) (e : Fin 2) (s : State),
    s.admits t ∧ s.calm 1 ∧ (s.ports.get e).state = EngineState.idle :=
  ⟨(tk0), (1), ({ withPort (fun p => { p with state := .idle, pauseRequested := true, faultRecord := some .jam, media := some 2 }) with awaiting := [] }), by decide⟩

theorem witness_EngineControlled_2_a : ∃ (t : Ticket) (e : Fin 2) (s : State),
    s.admits t ∧ s.calm 0 ∧ (s.ports.get e).pauseRequested = true ∧ (s.ports.get e).state ≠ EngineState.paused :=
  ⟨(tk0), (1), ({ withPort (fun p => { p with state := .idle, pauseRequested := true, faultRecord := some .jam, media := some 2 }) with awaiting := [] }), by decide⟩

theorem witness_EngineControlled_2_b : ∃ (t : Ticket) (e : Fin 2) (s : State),
    s.admits t ∧ s.calm 0 ∧ (s.ports.get e).pauseRequested = true ∧ (s.ports.get e).state ≠ EngineState.paused :=
  ⟨(tk0), (1), ({ withPort (fun p => { p with state := .printing, pauseRequested := true, faultRecord := some .jam, media := some 2 }) with awaiting := [] }), by decide⟩

theorem witness_EngineControlled_2_c : ∃ (t : Ticket) (e : Fin 2) (s : State),
    s.admits t ∧ s.calm 0 ∧ (s.ports.get e).pauseRequested = true ∧ (s.ports.get e).state ≠ EngineState.paused :=
  ⟨(tk0), (1), ({ withPort (fun p => { p with state := .fault, pauseRequested := true, faultRecord := some .jam, media := some 2 }) with awaiting := [] }), by decide⟩

theorem witness_EngineControlled_3_c : ∃ (t : Ticket) (e : Fin 2) (s : State),
    s.admits t ∧ s.calm 1 ∧ (s.ports.get e).state = EngineState.fault ∧ s.awaiting = [] :=
  ⟨(tk0), (1), ({ withPort (fun p => { p with state := .fault, pauseRequested := true, faultRecord := some .jam, media := some 2 }) with awaiting := [] }), by decide⟩

theorem witness_MediaStored : ∃ (t : Ticket) (e : Fin 2) (kind : Nat) (sheets : Nat) (ribbons : Nat) (s : State),
    s.calm 1 ∧ s.admits t ∧ kind ≤ 3 ∧ (s.ports.get e).state = EngineState.offline ∧ (s.ports.get e).offered = false ∧ ((s.ports.get e).media = some kind ∨ (s.sched.get e).runCount = 0) ∧ s.awaiting = [] :=
  ⟨(tk0), (1), (2), (1200), (40), ({ withPort (fun p => { p with state := .offline, offered := false, media := none }) with sched := ⟨calmPart.sched.zero, {}⟩, awaiting := [] }), by decide⟩

theorem witness_ProofStarted : ∃ (t : Ticket) (e : Fin 2) (profile : Nat) (finish : Nat) (temp : Nat) (lines : Nat) (source : Nat) (dest : Nat) (s : State),
    s.calm 1 ∧ s.admits t ∧ profile ≤ 3 ∧ finish ≤ 1 ∧ 0 < lines ∧ lines ≤ 2400 ∧ source + 3840 * lines ≤ 18446744073709551616 ∧ dest + 4 * lines * 2560 ≤ 18446744073709551616 ∧ (s.ports.get e).state = EngineState.idle ∧ (∀ l ∈ s.toneLoads, l.profile ≠ profile) ∧ (s.renderers.get e).inFetch = none :=
  ⟨(tk0), (1), (2), (1), (30), (600), (4096), (65536), ({ withPort (fun p => { p with state := .idle, media := some 2 }) with toneLoads := [], renderers := ⟨calmPart.renderers.zero, {}⟩ }), by decide⟩

theorem witness_ToneAsked_1 : ∃ (t : Ticket) (profile : Nat) (colour : Nat) (address : Nat) (s : State),
    s.calm 0 ∧ s.admits t ∧ profile ≤ 3 ∧ colour ≤ 2 ∧ address + 512 ≤ 18446744073709551616 ∧ s.toneLoads = [] ∧ (∀ (e : Fin 2), (s.renderers.get e).reserved ≠ some profile) :=
  ⟨(tk0), (2), (1), (4096), ({ calmPart with toneLoads := [], renderers := ⟨{}, {}⟩ }), by decide⟩

theorem witness_ToneAsked_2 : ∃ (d : List Byte) (g : Grant) (r : Request) (l : ToneLoad) (s : State),
    s.calm 0 ∧ s.lastBurst g r ∧ r.tag = ReqTag.tone ∧ g.write = none ∧ s.toneLoads = [l] ∧ (∀ (e : Fin 2), (s.ports.get e).waitingPrint = none ∧ (s.renderers.get e).proof = none) :=
  ⟨(List.map (fun k => BitVec.ofNat 8 (k * 7)) (List.range 512)), ({ place := 11, address := 4096, length := 512, write := none, issued := 9000 }), ({ tag := .tone, address := 4096, length := 512, got := [] }), ({ ticket := tk, profile := 2, colour := 1, address := 4096, reading := true }), ({ calmPart with toneLoads := [{ ticket := tk, profile := 2, colour := 1, address := 4096, reading := true }], ports := ⟨{}, {}⟩, renderers := ⟨{}, { reserved := some 2 }⟩, mover := { requests := [{ tag := .tone, address := 4096, length := 512, got := [] }], grant := some { place := 11, address := 4096, length := 512, write := none, issued := 9000 } } }), by decide⟩

theorem witness_MechanismReady_1_a : ∃ (e : Fin 2) (temp : Nat) (s : State),
    (s.ports.get e).watching = true ∧ s.calm 1 ∧ (s.ports.get e).state = EngineState.offline ∧ (s.ports.get e).record = none ∧ (s.ports.get e).spoilUnwritten = false ∧ (s.ports.get e).pauseRequested = false ∧ (s.ports.get e).media = none ∧ s.awaiting = [] :=
  ⟨(1), (31), ({ withPort (fun p => { p with state := .offline, watching := true, record := none, spoilUnwritten := false, pauseRequested := false, media := none }) with exch := { calmPart.exch with settings := { calmPart.exch.settings with reprintBudget := 3, render := ⟨{}, { tStop := 90, tResume := 20 }⟩ } }, awaiting := [], orders := [{ ord .producing with held := some 300, items := [{ item with assigned := 1 }, item] }], toneLoads := [], products := { media := 0, lines := 600 } :: calmPart.products.tail, sched := ⟨calmPart.sched.zero, {}⟩, renderers := ⟨calmPart.renderers.zero, { calmPart.renderers.one with inFetch := none }⟩ }), by decide⟩

theorem witness_MechanismReady_2_b : ∃ (e : Fin 2) (temp : Nat) (s : State) (a : Run) (r : Run),
    (s.ports.get e).watching = true ∧ (s.ports.get e).state = EngineState.offline ∧ (s.ports.get e).record = none ∧ (s.ports.get e).spoilUnwritten = false ∧ (s.ports.get e).pauseRequested = false ∧ (s.ports.get e).media ≠ none ∧ 0 < (s.ports.get e).sheets ∧ 0 < (s.ports.get e).ribbons ∧ temp < (s.exch.settings.render.get e).tStop ∧ s.exch.part = PartState.running ∧ (s.sched.get e).access = StackAccess.none ∧ s.awaiting = [] ∧ s.calm 0 ∧ (s.sched.get e).active = some a ∧ a.ending = false ∧ a.cls = OrderClass.standard ∧ r ∈ (s.sched.get e).queue ∧ r.cls = OrderClass.express ∧ (s.sched.get e).stack.length < 3 :=
  ⟨(1), (31), ({ withPort (fun p => { p with state := .offline, watching := true, record := none, spoilUnwritten := false, pauseRequested := false, media := some 0, sheets := 3, ribbons := 2 }) with exch := { calmPart.exch with settings := { calmPart.exch.settings with reprintBudget := 3, render := ⟨{}, { tStop := 90, tResume := 20 }⟩ } }, awaiting := [], orders := [{ ord .producing with held := some 300, items := [{ item with assigned := 1 }, item] }], toneLoads := [], products := { media := 0, lines := 600 } :: calmPart.products.tail, sched := ⟨calmPart.sched.zero, { active := some { run with reprint := true }, queue := [run, { run with cls := .express }], stack := [{ order := 9, check := 4, savedAs := .parked }], heldDecision := true, heldTest := true }⟩, renderers := ⟨calmPart.renderers.zero, { calmPart.renderers.one with inFetch := none }⟩ }), ({ run with reprint := true }), ({ run with cls := .express }), by decide⟩

theorem witness_MechanismReady_3_c : ∃ (e : Fin 2) (temp : Nat) (s : State),
    (s.ports.get e).watching = true ∧ (s.ports.get e).state = EngineState.offline ∧ (s.ports.get e).record = none ∧ (s.ports.get e).spoilUnwritten = false ∧ (s.ports.get e).pauseRequested = false ∧ (s.ports.get e).media ≠ none ∧ 0 < (s.ports.get e).sheets ∧ 0 < (s.ports.get e).ribbons ∧ temp < (s.exch.settings.render.get e).tStop ∧ s.exch.part = PartState.running ∧ (s.sched.get e).access = StackAccess.none ∧ s.awaiting = [] ∧ s.calm 1 ∧ (s.sched.get e).active = none ∧ (s.sched.get e).queue = [] ∧ (s.sched.get e).stack = [] :=
  ⟨(1), (31), ({ withPort (fun p => { p with state := .offline, watching := true, record := none, spoilUnwritten := false, pauseRequested := false, media := some 0, sheets := 3, ribbons := 2 }) with exch := { calmPart.exch with settings := { calmPart.exch.settings with reprintBudget := 3, render := ⟨{}, { tStop := 90, tResume := 20 }⟩ } }, awaiting := [], orders := [{ ord .producing with held := some 300, items := [{ item with assigned := 1 }, item] }], toneLoads := [], products := { media := 0, lines := 600 } :: calmPart.products.tail, sched := ⟨calmPart.sched.zero, {}⟩, renderers := ⟨calmPart.renderers.zero, { calmPart.renderers.one with inFetch := none }⟩ }), by decide⟩

theorem witness_MechanismReady_4_d : ∃ (e : Fin 2) (temp : Nat) (s : State) (r : Run) (rest : List Run) (o : Order) (i : Item) (quote : Nat),
    (s.ports.get e).watching = true ∧ (s.ports.get e).state = EngineState.offline ∧ (s.ports.get e).record = none ∧ (s.ports.get e).spoilUnwritten = false ∧ (s.ports.get e).pauseRequested = false ∧ (s.ports.get e).media ≠ none ∧ 0 < (s.ports.get e).sheets ∧ 0 < (s.ports.get e).ribbons ∧ temp < (s.exch.settings.render.get e).tStop ∧ s.exch.part = PartState.running ∧ (s.sched.get e).access = StackAccess.none ∧ s.awaiting = [] ∧ s.calm 2 ∧ (s.sched.get e).active = none ∧ (s.sched.get e).queue = r :: rest ∧ (r.cls = OrderClass.express ∨ ∀ x ∈ rest, x.cls = OrderClass.standard) ∧ r.reprint = false ∧ (s.sched.get e).stack = [] ∧ (∀ l ∈ s.toneLoads, l.profile ≠ r.profile) ∧ (s.renderers.get e).inFetch = none ∧ (s.renderers.get e).proof = none ∧ s.findOrder r.order = some o ∧ o.state = OrderState.producing ∧ o.quote = some quote ∧ quote ≤ o.held.getD 0 + o.cash ∧ o.items[r.item]? = some i ∧ i.staging = Staging.staged ∧ i.assigned + i.withdrawn < i.copies :=
  ⟨(1), (31), ({ withPort (fun p => { p with state := .offline, watching := true, record := none, spoilUnwritten := false, pauseRequested := false, media := some 0, sheets := 3, ribbons := 2 }) with exch := { calmPart.exch with settings := { calmPart.exch.settings with reprintBudget := 3, render := ⟨{}, { tStop := 90, tResume := 20 }⟩ } }, awaiting := [], orders := [{ ord .producing with held := some 300, items := [{ item with assigned := 1 }, item] }], toneLoads := [], products := { media := 0, lines := 600 } :: calmPart.products.tail, sched := ⟨calmPart.sched.zero, { queue := [{ run with state := .queued }, { run with order := 22 }] }⟩, renderers := ⟨calmPart.renderers.zero, { calmPart.renderers.one with inFetch := none }⟩ }), ({ run with state := .queued }), ([{ run with order := 22 }]), ({ ord .producing with held := some 300, items := [{ item with assigned := 1 }, item] }), ({ item with assigned := 1 }), (217), by decide⟩

theorem witness_MechanismReady_5_e : ∃ (e : Fin 2) (temp : Nat) (s : State) (r : PrintRecord),
    (s.ports.get e).watching = true ∧ s.calm 0 ∧ (s.ports.get e).state = EngineState.printing ∧ (s.ports.get e).record = some r ∧ (s.ports.get e).phase = some Phase.feed :=
  ⟨(1), (31), ({ withPort (fun p => printing .feed p) with exch := { calmPart.exch with settings := { calmPart.exch.settings with reprintBudget := 3, render := ⟨{}, { tStop := 90, tResume := 20 }⟩ } }, awaiting := [], orders := [{ ord .producing with held := some 300, items := [{ item with assigned := 1 }, item] }], toneLoads := [], products := { media := 0, lines := 600 } :: calmPart.products.tail, sched := ⟨calmPart.sched.zero, {}⟩, renderers := ⟨calmPart.renderers.zero, { calmPart.renderers.one with inFetch := none }⟩ }), (record), by decide⟩

theorem witness_FaultOutsidePrint : ∃ (e : Fin 2) (code : MechFaultCode) (s : State),
    s.calm 1 ∧ (s.ports.get e).watching = true ∧ (s.ports.get e).state = EngineState.idle ∧ (s.ports.get e).record = none :=
  ⟨(1), (.ribbonBreak), (withPort fun p => { p with state := .idle, watching := true, record := none }), by decide⟩

theorem witness_LateLineAnswered : ∃ (e : Fin 2) (temp : Nat) (r : PrintRecord) (p : Pass) (h : InHand) (s : State),
    s.calm 0 ∧ (s.ports.get e).watching = true ∧ (s.ports.get e).state = EngineState.printing ∧ (s.ports.get e).record = some r ∧ (s.ports.get e).phase = some (Phase.pass p) ∧ r.lineIndex < r.lines ∧ p ≠ Pass.o ∧ (s.renderers.get e).pass = some p ∧ (s.renderers.get e).inHand = some h ∧ (s.renderers.get e).ring = [] :=
  ⟨(1), (31), (record), (.m), (inHand), ({ withPort (printing (.pass .m)) with renderers := ⟨calmPart.renderers.zero, { activity := .print, pass := some .m, lineIndex := 3, inHand := some inHand, ring := [] }⟩ }), by decide⟩

theorem witness_SheetEjected : ∃ (e : Fin 2) (temp : Nat) (r : PrintRecord) (s : State),
    s.calm 0 ∧ (s.ports.get e).watching = true ∧ (s.ports.get e).state = EngineState.printing ∧ (s.ports.get e).record = some r ∧ (s.ports.get e).phase = some Phase.eject :=
  ⟨(1), (31), (record), (withPort (printing .eject)), by decide⟩

theorem witness_EngineFallsSilent_a : ∃ (e : Fin 2) (st : EngineState) (s : State),
    s.calm 1 ∧ (s.ports.get e).watching = true ∧ (s.ports.get e).state = st ∧ st ∈ [EngineState.idle, EngineState.blocked, EngineState.held, EngineState.cooling, EngineState.noMedia, EngineState.paused] ∧ reached s.clock ((s.ports.get e).heardAt + 1000) = true :=
  ⟨(1), (.held), (withPort fun p => { p with state := .held, watching := true, heardAt := 9000, media := some 1 }), by decide⟩

theorem witness_EngineFallsSilent_b : ∃ (e : Fin 2) (st : EngineState) (s : State),
    s.calm 1 ∧ (s.ports.get e).watching = true ∧ (s.ports.get e).state = st ∧ st ∈ [EngineState.idle, EngineState.blocked, EngineState.held, EngineState.cooling, EngineState.noMedia, EngineState.paused] ∧ reached s.clock ((s.ports.get e).heardAt + 1000) = true :=
  ⟨(1), (.idle), (withPort fun p => { p with state := .idle, watching := true, heardAt := 9000, media := some 1 }), by decide⟩

theorem witness_PrintDelivered : ∃ (e : Fin 2) (r : PrintRecord) (a : Run) (o : Order) (other : Item) (k : Nat) (s : State),
    s.calm 2 ∧ (s.ports.get e).record = some r ∧ r.failed = 0 ∧ r.faulted = false ∧ (s.ports.get e).phase = some Phase.ended ∧ (s.ports.get e).state = EngineState.printing ∧ (s.ports.get e).faultRecord = none ∧ (s.ports.get e).spoilUnwritten = false ∧ (s.ports.get e).pauseRequested = false ∧ (s.ports.get e).sheets = 0 ∧ (s.sched.get e).active = some a ∧ s.toneLoads = [] ∧ s.findOrder r.print.order = some o ∧ o.state = OrderState.producing ∧ k ≠ r.print.item ∧ o.items[k]? = some other ∧ other.delivered + other.undeliverable < other.copies :=
  ⟨(1), (record), (run), (ord .producing), (item), (1), ({ withOrder (ord .producing) with ports := ⟨calmPart.ports.zero, { printing .ended calmPart.ports.one with sheets := 0, faultRecord := none, spoilUnwritten := false, pauseRequested := false }⟩, sched := ⟨calmPart.sched.zero, { active := some run }⟩, toneLoads := [] }), by decide⟩

theorem witness_FrameRoundTrip : ∃ (seq : Nat) (kind : Nat) (payload : List Byte) (s : State),
    s.quiet ∧ s.tender.listening = true ∧ s.tender.loopOn = false ∧ s.tender.rx = [] ∧ seq < 256 ∧ kind < 256 ∧ payload.length ≤ 40 ∧ (contentOf kind seq payload).isSome = true ∧ s.tender.queue.length < 8 :=
  ⟨(9), (0x81), (0#8 :: List.replicate 12 5#8), (withTender fun t => { linked t with rx := [], loopOn := false, queue := [] }), by decide⟩

theorem witness_FramesDiscarded_1_a : ∃ (s : State) (seq : Nat) (kind : Nat) (payload : List Byte),
    s.quiet ∧ s.tender.listening = true ∧ s.tender.loopOn = false ∧ s.tender.rx = [] ∧ payload.length ≤ 40 :=
  ⟨(withTender fun t => { linked t with loopOn := false, rx := [], rxLast := 9000 }), (9), (0x81), ([1#8, 2#8]), by decide⟩

theorem witness_FramesDiscarded_2_b : ∃ (s : State),
    s.quiet ∧ s.tender.rx ≠ [] ∧ reached s.clock (s.tender.rxLast + 21) = true :=
  ⟨(withTender fun t => { linked t with loopOn := false, rx := [0xC3#8], rxLast := 9000 }), by decide⟩

theorem witness_LinkComesUp_a : ∃ (f : RxFrame) (rest : List RxFrame) (code : TermState) (s : State),
    s.calm 1 ∧ s.tender.queue = f :: rest ∧ f.content = some (TermFrame.state code) ∧ s.tender.loopOn = false ∧ s.tender.candidate = some code ∧ s.tender.linkUp = false :=
  ⟨({ seq := 0, kind := 0x85, payload := [6#8], arrival := 9990 }), ([]), (.outOfService), (withTender fun t => { t with listening := true, linkUp := false, loopOn := false, candidate := some .outOfService, queue := [{ seq := 0, kind := 0x85, payload := [6#8], arrival := 9990 }] }), by decide⟩

theorem witness_LinkComesUp_b : ∃ (f : RxFrame) (rest : List RxFrame) (code : TermState) (s : State),
    s.calm 1 ∧ s.tender.queue = f :: rest ∧ f.content = some (TermFrame.state code) ∧ s.tender.loopOn = false ∧ s.tender.candidate = some code ∧ s.tender.linkUp = false :=
  ⟨({ seq := 0, kind := 0x85, payload := [1#8], arrival := 9990 }), ([]), (.idle), (withTender fun t => { t with listening := true, linkUp := false, loopOn := false, candidate := some .idle, queue := [{ seq := 0, kind := 0x85, payload := [1#8], arrival := 9990 }] }), by decide⟩

theorem witness_LinkGoesDown : ∃ (t : Nat) (s : State),
    s.calm 1 ∧ s.tender.listening = true ∧ s.tender.loopOn = false ∧ s.tender.linkUp = true ∧ s.tender.lastValid = some t ∧ reached s.clock (t + 3000) = true :=
  ⟨(6000), (withTender fun t => { linked t with loopOn := false }), by decide⟩

theorem witness_HoldSent : ∃ (e : TenderEntry) (rest : List TenderEntry) (q : Nat) (s : State),
    s.calm 1 ∧ s.tender.tx = none ∧ s.tender.outstanding = none ∧ s.tender.testSend = none ∧ s.tender.listening = true ∧ s.tender.linkUp = true ∧ s.tender.loopOn = false ∧ s.tender.accepted ≠ some TermState.outOfService ∧ s.tender.requests = e :: rest ∧ e.kind = RequestKind.hold ∧ s.tender.nextSeq = q ∧ 1 ≤ q ∧ q ≤ 255 ∧ s.tender.reservedSeqs = [] ∧ (∀ (t : Nat), s.tender.lastTxEnd = some t → reached s.clock (t + 30) = true) :=
  ⟨(hold), ([capture]), (255), ({ withOrder { ord .funding with request := some { kind := .hold, amount := 217 } } with tender := { linked calmPart.tender with requests := [hold, capture], nextSeq := 255, lastTxEnd := some 9000, reservedSeqs := [], outstanding := none, tx := none, testSend := none, loopOn := false } }), by decide⟩

theorem witness_RequestTimers_1_a : ∃ (o : Outstanding) (s : State) (x : Transmission),
    s.calm 0 ∧ s.tender.outstanding = some o ∧ s.tender.tx = some x ∧ x.what = TxFor.request o.seq ∧ o.expiry = none ∧ o.entry.kind = RequestKind.hold ∧ reached s.clock (x.started + x.bytes.length * 10000 / 19200) = true :=
  ⟨({ entry := hold, seq := 12 }), (withTender fun t => { t with outstanding := some { entry := hold, seq := 12 }, tx := some { what := .request 12, bytes := List.replicate 12 0#8, started := 9990 } }), ({ what := .request 12, bytes := List.replicate 12 0#8, started := 9990 }), by decide⟩

theorem witness_RequestTimers_2_b : ∃ (o : Outstanding) (s : State) (t : Nat),
    s.calm 0 ∧ s.tender.outstanding = some o ∧ o.phase = TenderPhase.awaitResult ∧ o.expiry = some t ∧ reached s.clock t = true :=
  ⟨({ entry := hold, seq := 12 , expiry := some 9999 }), (withTender fun t => { t with outstanding := some { entry := hold, seq := 12 , expiry := some 9999 }, tx := some { what := .request 12, bytes := List.replicate 12 0#8, started := 9990 } }), (9999), by decide⟩

theorem witness_CaptureUnresolved : ∃ (o : Outstanding) (w : Order) (r : OrderRequest) (t : Nat) (s : State),
    s.calm 2 ∧ s.tender.outstanding = some o ∧ o.phase ≠ TenderPhase.awaitResult ∧ o.expiry = some t ∧ reached s.clock t = true ∧ o.entry.kind = RequestKind.capture ∧ o.entry.ticket = none ∧ s.findOrder o.entry.order = some w ∧ w.state = OrderState.settling ∧ w.request = some r ∧ r.seq = some o.seq :=
  ⟨({ entry := capture, seq := 12, phase := .queryDue, expiry := some 9999 }), ({ ord .settling with request := some { kind := .capture, amount := 90, seq := some 12, cardPart := 100 } }), ({ kind := .capture, amount := 90, seq := some 12, cardPart := 100 }), (9999), ({ withOrder { ord .settling with request := some { kind := .capture, amount := 90, seq := some 12, cardPart := 100 } } with tender := { calmPart.tender with outstanding := some { entry := capture, seq := 12, phase := .queryDue, expiry := some 9999 } } }), by decide⟩

theorem witness_HoldRequested : ∃ (t : Ticket) (o : Order) (s : State),
    s.calm 1 ∧ s.takes t ∧ s.findOrder t.order = some o ∧ o.state = OrderState.quoted ∧ o.held = none ∧ o.request = none ∧ s.tender.loopOn = false :=
  ⟨(tk), ({ ord .quoted with cash := 17 }), ({ withOrder { ord .quoted with cash := 17 } with tender := { calmPart.tender with loopOn := false } }), by decide⟩

theorem witness_LinkTested_1_a : ∃ (t : Ticket) (s : State) (mode : Nat),
    s.admits t ∧ s.tender.outstanding = none ∧ s.tender.requests = [] ∧ mode ≤ 1 ∧ s.calm 1 ∧ s.tender.loopOn = false :=
  ⟨(tk0), (withTender fun t => { t with outstanding := none, requests := [], testSend := none, loopOn := false, armed := 3, echo := 4, heldLink := true, heldAccepted := some .idle }), (0), by decide⟩

theorem witness_LinkTested_4_a : ∃ (t : Ticket) (s : State),
    s.admits t ∧ s.tender.outstanding = none ∧ s.tender.requests = [] ∧ s.calm 0 :=
  ⟨(tk0), (withTender fun t => { t with outstanding := none, requests := [], testSend := none, loopOn := false, armed := 3, echo := 4, heldLink := true, heldAccepted := some .idle }), by decide⟩

theorem witness_LinkTested_2_b : ∃ (t : Ticket) (s : State),
    s.admits t ∧ s.tender.outstanding = none ∧ s.tender.requests = [] ∧ s.calm 1 ∧ s.tender.loopOn = true ∧ s.tender.testSend = none :=
  ⟨(tk0), (withTender fun t => { t with outstanding := none, requests := [], testSend := none, loopOn := true, armed := 3, echo := 4, heldLink := true, heldAccepted := some .idle }), by decide⟩

theorem witness_LinkTested_3_b : ∃ (t : Ticket) (s : State) (count : Nat),
    s.admits t ∧ s.tender.outstanding = none ∧ s.tender.requests = [] ∧ s.calm 0 ∧ count ≠ 0 ∧ s.tender.loopOn = true ∧ s.tender.testSend = none :=
  ⟨(tk0), (withTender fun t => { t with outstanding := none, requests := [], testSend := none, loopOn := true, armed := 3, echo := 4, heldLink := true, heldAccepted := some .idle }), (5), by decide⟩

theorem witness_LinkTested_4_b : ∃ (t : Ticket) (s : State),
    s.admits t ∧ s.tender.outstanding = none ∧ s.tender.requests = [] ∧ s.calm 0 :=
  ⟨(tk0), (withTender fun t => { t with outstanding := none, requests := [], testSend := none, loopOn := true, armed := 3, echo := 4, heldLink := true, heldAccepted := some .idle }), by decide⟩

theorem witness_PulsesClassed_a : ∃ (length : Nat) (s : State),
    s.quiet ∧ s.cash.sampling = true ∧ s.cash.lineFault = false ∧ s.cash.phase ≠ BindPhase.window ∧ 1 ≤ length ∧ length ≤ 499 :=
  ⟨(19), (withCash fun c => { c with sampling := true, lineFault := false, phase := .bound, bound := 7, seen := 3, need := 100, list := [.credit (some 7) 2] }), by decide⟩

theorem witness_PulsesClassed_b : ∃ (length : Nat) (s : State),
    s.quiet ∧ s.cash.sampling = true ∧ s.cash.lineFault = false ∧ s.cash.phase ≠ BindPhase.window ∧ 1 ≤ length ∧ length ≤ 499 :=
  ⟨(20), (withCash fun c => { c with sampling := true, lineFault := false, phase := .bound, bound := 7, seen := 3, need := 100, list := [.credit (some 7) 2] }), by decide⟩

theorem witness_PulsesClassed_c : ∃ (length : Nat) (s : State),
    s.quiet ∧ s.cash.sampling = true ∧ s.cash.lineFault = false ∧ s.cash.phase ≠ BindPhase.window ∧ 1 ≤ length ∧ length ≤ 499 :=
  ⟨(150), (withCash fun c => { c with sampling := true, lineFault := false, phase := .bound, bound := 7, seen := 3, need := 100, list := [.credit (some 7) 2] }), by decide⟩

theorem witness_PulsesClassed_d : ∃ (length : Nat) (s : State),
    s.quiet ∧ s.cash.sampling = true ∧ s.cash.lineFault = false ∧ s.cash.phase ≠ BindPhase.window ∧ 1 ≤ length ∧ length ≤ 499 :=
  ⟨(151), (withCash fun c => { c with sampling := true, lineFault := false, phase := .bound, bound := 7, seen := 3, need := 100, list := [.credit (some 7) 2] }), by decide⟩

theorem witness_LineFaults_1_a : ∃ (s : State),
    s.quiet ∧ s.cash.sampling = true ∧ s.cash.lineFault = false :=
  ⟨(withCash fun c => { c with sampling := true, lineFault := false, list := [.fault, .credit none 1], bindWaiting := [] }), by decide⟩

theorem witness_LineFaults_3_a : ∃ (s : State) (rest : List CashItem),
    s.calm 1 ∧ s.cash.list = CashItem.fault :: rest ∧ s.cash.bindWaiting = [] :=
  ⟨(withCash fun c => { c with sampling := true, lineFault := false, list := [.fault, .credit none 1], bindWaiting := [] }), ([.credit none 1]), by decide⟩

theorem witness_LineFaults_2_b : ∃ (s : State),
    s.quiet ∧ s.cash.lineFault = true :=
  ⟨(withCash fun c => { c with sampling := true, lineFault := true, list := [.fault, .credit none 1], bindWaiting := [] }), by decide⟩

theorem witness_LineFaults_3_b : ∃ (s : State) (rest : List CashItem),
    s.calm 1 ∧ s.cash.list = CashItem.fault :: rest ∧ s.cash.bindWaiting = [] :=
  ⟨(withCash fun c => { c with sampling := true, lineFault := true, list := [.fault, .credit none 1], bindWaiting := [] }), ([.credit none 1]), by decide⟩

theorem witness_CashBinding_1_a : ∃ (t : Ticket) (s : State),
    ¬s.takes t :=
  ⟨(tk), ({ withOrder (ord .quoted) with exch := { calmPart.exch with part := .stopping }, cash := { calmPart.cash with phase := .none, list := [], bindWaiting := [] } }), by decide⟩

theorem witness_CashBinding_2_b : ∃ (t : Ticket) (s : State) (o : Order),
    s.calm 1 ∧ s.takes t ∧ s.findOrder t.order = some o ∧ o.state = OrderState.quoted ∧ s.cash.phase = BindPhase.none ∧ s.cash.list = [] :=
  ⟨(tk), ({ withOrder (ord .quoted) with exch := { calmPart.exch with part := .running }, cash := { calmPart.cash with phase := .none, list := [], bindWaiting := [] } }), (ord .quoted), by decide⟩

theorem witness_CashBinding_3_c : ∃ (t : Ticket) (s : State) (seen : Nat) (need : Nat) (rest : List CashItem),
    s.calm 1 ∧ s.cash.list = CashItem.bind t seen need :: rest ∧ s.cash.bindWaiting = [] :=
  ⟨(tk), ({ withOrder (ord .quoted) with exch := { calmPart.exch with part := .running }, cash := { calmPart.cash with phase := .none, list := [.bind tk 20 217, .credit none 1], bindWaiting := [] } }), (20), (217), ([.credit none 1]), by decide⟩

theorem witness_SettleWindow_1_a : ∃ (s : State) (t : Ticket),
    ¬s.takes t :=
  ⟨({ withOrder { ord .funded with cashBound := true, cash := 300 } with exch := { calmPart.exch with part := .halted }, cash := { calmPart.cash with phase := .bound, bound := 7, windowEnd := some 9999, list := [], bindWaiting := [] } }), (tk), by decide⟩

theorem witness_SettleWindow_2_b : ∃ (s : State) (t : Ticket) (o : Order),
    s.calm 0 ∧ s.takes t ∧ s.findOrder t.order = some o ∧ s.cash.phase = BindPhase.bound ∧ s.cash.bound = t.order :=
  ⟨({ withOrder { ord .funded with cashBound := true, cash := 300 } with exch := { calmPart.exch with part := .running }, cash := { calmPart.cash with phase := .bound, bound := 7, windowEnd := some 9999, list := [], bindWaiting := [] } }), (tk), ({ ord .funded with cashBound := true, cash := 300 }), by decide⟩

theorem witness_SettleWindow_3_c : ∃ (s : State) (t : Nat),
    s.quiet ∧ s.cash.phase = BindPhase.window ∧ s.cash.windowEnd = some t ∧ CashItem.windowEnd ∉ s.cash.list ∧ reached s.clock t = true :=
  ⟨({ withOrder { ord .funded with cashBound := true, cash := 300 } with exch := { calmPart.exch with part := .running }, cash := { calmPart.cash with phase := .window, bound := 7, windowEnd := some 9999, list := [.credit none 2], bindWaiting := [] } }), (9999), by decide⟩

theorem witness_SettleWindow_4_d : ∃ (s : State) (o : Order) (rest : List CashItem),
    s.calm 1 ∧ s.cash.list = CashItem.windowEnd :: rest ∧ s.cash.bindWaiting = [] ∧ s.findOrder s.cash.bound = some o ∧ o.state = OrderState.funded ∧ o.cashBound = true :=
  ⟨({ withOrder { ord .funded with cashBound := true, cash := 300 } with exch := { calmPart.exch with part := .running }, cash := { calmPart.cash with phase := .window, bound := 7, windowEnd := some 9999, list := [.windowEnd, .credit none 1], bindWaiting := [] } }), ({ ord .funded with cashBound := true, cash := 300 }), ([.credit none 1]), by decide⟩

theorem witness_CashCredited_1_a : ∃ (s : State) (n : Nat) (count : Nat) (o : Order) (quote : Nat) (rest : List CashItem),
    s.calm 1 ∧ s.cash.bindWaiting = [] ∧ s.cash.list = CashItem.credit (some n) count :: rest ∧ s.findOrder n = some o ∧ o.cashBound = true ∧ o.state = OrderState.funding ∧ o.quote = some quote ∧ 0 < s.cash.pulseValue ∧ o.cash + count * s.cash.pulseValue ≤ 2000000 ∧ o.held.getD 0 + o.cash + count * s.cash.pulseValue < quote :=
  ⟨({ withOrder { ord .funding with cashBound := true, cash := 10, surplus := some 4 } with cash := { calmPart.cash with sampling := true, phase := .bound, bound := 7, pulseValue := 50, list := [.credit (some 7) 3, .credit none 2], bindWaiting := [] } }), (7), (3), ({ ord .funding with cashBound := true, cash := 10, surplus := some 4 }), (217), ([.credit none 2]), by decide⟩

theorem witness_CashCredited_2_b : ∃ (s : State) (count : Nat) (rest : List CashItem),
    s.calm 1 ∧ s.cash.bindWaiting = [] ∧ s.cash.list = CashItem.credit none count :: rest :=
  ⟨({ withOrder { ord .funding with cashBound := true, cash := 10, surplus := some 4 } with cash := { calmPart.cash with sampling := true, phase := .bound, bound := 7, pulseValue := 50, list := [.credit none 3, .fault], bindWaiting := [] } }), (3), ([.fault]), by decide⟩

theorem witness_RefreshAndBusMaster_1_a : ∃ (t : Ticket) (s : State),
    s.quiet ∧ s.admits t ∧ s.exch.refreshes = [] ∧ s.exch.setupReading = none ∧ s.exch.setupReady = none ∧ s.exch.part ≠ PartState.halted :=
  ⟨(tk0), (withExch fun x => { x with part := .running, handed := [], refreshes := [], setupReading := none, setupReady := none }), by decide⟩

theorem witness_RefreshAndBusMaster_3_a : ∃ (s : State),
    s.agenda = [] :=
  ⟨(withExch fun x => { x with busMaster := false }), by decide⟩

theorem witness_RefreshAndBusMaster_4_a : ∃ (s : State),
    s.agenda = [] ∧ s.exch.part = PartState.reset ∧ s.mover.requests = [] :=
  ⟨({ withExch (fun x => { x with part := .reset }) with mover := {} }), by decide⟩

theorem witness_RefreshAndBusMaster_2_b : ∃ (t : Ticket) (s : State),
    s.quiet ∧ s.admits t ∧ s.exch.refreshes = [] ∧ s.exch.setupReading = none ∧ s.exch.setupReady = none ∧ s.exch.part = PartState.halted :=
  ⟨(tk0), (withExch fun x => { x with part := .halted, handed := [⟨{ slot := 5, kind := 16, seq := 321, order := 0 }, [], 77, none⟩], refreshes := [], setupReading := none, setupReady := none }), by decide⟩

theorem witness_CounterReports_1 : ∃ (t : Ticket) (s : State),
    s.quiet ∧ s.admits t :=
  ⟨(tk0), (calmPart), by decide⟩

theorem witness_CounterReports_2 : ∃ (t : Nat) (n : Nat) (s : State),
    s.quiet ∧ s.counters.timer = some t ∧ s.exch.settings.report = ReportMode.auto n ∧ reached s.clock (t + 1000 * n) = true :=
  ⟨(5000), (4), ({ withExch (fun x => { x with settings := { x.settings with report := .auto 4 } }) with counters := { calmPart.counters with timer := some 5000 } }), by decide⟩

theorem witness_CounterReports_3 : ∃ (t : Ticket) (seq : Nat) (s : State),
    s.calm 3 ∧ s.counters.due = some { seq := seq, tickets := [t] } :=
  ⟨(tk), (9), ({ calmPart with counters := { calmPart.counters with due := some { seq := 9, tickets := [tk] }, reportNumber := 65535 } }), by decide⟩

/-- A trigger of a scan: NUDGE, and the scan timer at its expiry. -/
theorem witness_ScanTriggers_nudge : ∃ (c : Instr) (s : State), s.quiet ∧ s.exch.part = PartState.running ∧ (∃ v, c = Instr.nudge v)
    ∧ s.exch.scan = Scan.idle ∧ s.exch.logWriter ≠ LogWriter.waiting :=
  ⟨.nudge 0, calmPart, by decide, by decide, ⟨0, rfl⟩, by decide, by decide⟩

theorem witness_ScanTriggers_expiry : ∃ (c : Instr) (s : State), s.quiet ∧ s.exch.part = PartState.running
    ∧ (c = Instr.scanTimerExpiry ∧ ∃ t, s.exch.scanTimer = some t ∧ s.exch.settings.scanInterval ≠ 0
      ∧ reached s.clock (t + s.exch.settings.scanInterval) = true) ∧ s.exch.scan ≠ Scan.idle :=
  ⟨.scanTimerExpiry, withExch (fun x => { x with scanTimer := some 9990, scan := .headers 4 [] }), by decide, by decide,
    ⟨rfl, 9990, by decide⟩, by decide⟩

/-- Every command of the statement, for order 7 in a part that holds none. -/
theorem witness_NoLiveOrderRefused :
    ∀ x ∈ [(Instr.orderAddItems tk [], 2), (.orderQuote tk, 3), (.orderCancel tk, 4), (.orderDropItem tk 0, 5), (.orderResolve tk 1 0 0, 6),
      (.payCard tk, 7), (.payCashBind tk, 8), (.payCashUnbind tk, 9), (.loadPrices tk 0, 11), (.loadTone tk 0 0 0, 12),
      (.engineControlEvacuate tk 0, 13), (.engineControlPause tk 0, 13), (.engineControlResume tk 0, 13), (.engineControlReset tk 0, 13),
      (.mediaSet tk 0 0 0 0, 14), (.engineProof tk 0 0 0 0 0 0 0, 15), (.refreshSettings tk, 16), (.readCounters tk, 17),
      (.linkTestLoopOn tk 0, 18), (.linkTestLoopOff tk, 18), (.linkTestSend tk 0, 18), (.linkTestInsertError tk, 18)],
      orderTicket x.1 = some (tk, x.2) ∧ calmPart.calm 0 ∧ calmPart.takes tk ∧ calmPart.findOrder tk.order = none ∧ (9 < x.2 → tk.order ≠ 0)
        ∧ (x.2 = 8 → calmPart.cash.list = []) := by decide

/-- The part states in which no ticket is taken, with a ticket that was not handed on and one that was, and a slot that is in flight. -/
theorem witness_NoLiveOrderRefused_untaken : commandTicket (.orderOpen tk 0 0 0 0) = some tk ∧ commandTicket (.cardRead tk 0 255 []) = some tk
    ∧ commandTicket (.payCard tk) = some tk ∧ ¬ (withExch fun x => { x with inFlight := [5] }).takes tk
    ∧ ∀ p ∈ [PartState.reset, .starting, .stopping, .stopped, .halted], ¬ (withExch fun x => { x with part := p }).takes tk
        ∧ (withExch fun x => { x with part := p, inFlight := [5], handed := [⟨⟨5, 7, 321, 7⟩, [], 77, none⟩] }).takes tk := by decide

/-- The pending outcome queue is full, the oldest producer waits for a place, and what stands behind it is the same slot's. -/
theorem witness_OldestProducerServed_held : ∃ (j : Job) (rest : List Job) (s : State), s.waiting = j :: rest
    ∧ 16 < (State.attempt j { s with waiting := rest }).occupied ∧ s.occupied < (State.attempt j { s with waiting := rest }).occupied
    ∧ s.quiet ∧ ∀ l k r, rest = l ++ k :: r → s.heldBack (j :: l) k r := by
  refine ⟨settleJob, [⟨[], .cmd (.identifyTimeout 1)⟩], fullLine [⟨[], .cmd (.identifyTimeout 1)⟩], rfl, by decide, by decide, by decide,
    fun l k r h => ?_⟩
  cases l with
  | nil => injection h with hk _; subst hk; exact .inl (by decide)
  | cons _ l => cases l <;> cases h

/-- As above, with a request behind them that nothing holds back. -/
theorem witness_OldestProducerServed_free : ∃ (j k : Job) (l r : List Job) (s : State), s.waiting = j :: (l ++ k :: r)
    ∧ 16 < (State.attempt j { s with waiting := l ++ k :: r }).occupied
    ∧ s.occupied < (State.attempt j { s with waiting := l ++ k :: r }).occupied
    ∧ (∀ l₁ i l₂, l = l₁ ++ i :: l₂ → s.heldBack (j :: l₁) i (l₂ ++ k :: r)) ∧ ¬ s.heldBack (j :: l) k r := by
  refine ⟨settleJob, ⟨[], .cmd .linkSilence⟩, [⟨[], .cmd (.identifyTimeout 1)⟩], [⟨[], .cmd (.cardSettleEnd 2)⟩],
    fullLine [⟨[], .cmd (.identifyTimeout 1)⟩, ⟨[], .cmd .linkSilence⟩, ⟨[], .cmd (.cardSettleEnd 2)⟩], rfl, by decide, by decide,
    fun l k r h => ?_, by decide⟩
  cases l with
  | nil => injection h with hk _; subst hk; exact .inl (by decide)
  | cons _ l => cases l <;> cases h

theorem witness_BurstErrorHalts_header : ∃ (c : Instr) (g : Grant) (r : Request) (why : HaltCause) (s : State), s.quiet ∧ s.exch.part ≠ PartState.halted
    ∧ s.mover.grant = some g ∧ s.mover.headOf g.place = some r ∧ (∀ n, (s.slots.get n).queue = [])
    ∧ (∃ n, r.tag = ReqTag.header n ∧ why = HaltCause.ticket) ∧ c = .burstEnd .failed :=
  ⟨.burstEnd .failed, { place := 1, address := 66560, length := 1, write := none, issued := 9000 },
    { tag := .header 3, address := 66560, length := 1 }, .ticket, { calmPart with mover := granted (.header 3) none },
    by decide, by decide, by decide, by decide, by decide, ⟨3, by decide⟩, rfl⟩

theorem witness_BurstErrorHalts_timeout : ∃ (c : Instr) (g : Grant) (r : Request) (why : HaltCause) (s : State), s.quiet ∧ s.exch.part ≠ PartState.halted
    ∧ s.mover.grant = some g ∧ s.mover.headOf g.place = some r ∧ (∀ n, (s.slots.get n).queue = [])
    ∧ (r.tag = ReqTag.mark ∧ why = HaltCause.log)
    ∧ (c = .burstReadTimeout ∧ g.write = none ∧ reached s.clock (g.issued + 50) = true) :=
  ⟨.burstReadTimeout, { place := 3, address := 66560, length := 1, write := none, issued := 9000 },
    { tag := .mark, address := 66560, length := 1 }, .log, { calmPart with mover := granted .mark none },
    by decide, by decide, by decide, by decide, by decide, by decide, rfl, by decide⟩

theorem witness_BurstErrorHalts_owner : ∃ (g : Grant) (r : Request) (s : State), s.quiet ∧ s.exch.part ≠ PartState.halted
    ∧ s.mover.grant = some g ∧ s.mover.headOf g.place = some r ∧ (∀ n, (s.slots.get n).queue = []) ∧ ∃ n, r.tag = ReqTag.owner n :=
  ⟨{ place := 2, address := 66560, length := 1, write := some [0#8], issued := 9000 },
    { tag := .owner 63, address := 66560, length := 1, write := some [0#8] }, { calmPart with mover := granted (.owner 63) (some [0#8]) },
    by decide, by decide, by decide, by decide, by decide, 63, by decide⟩

theorem witness_RecordWritten_freshMark : ∃ (g : Grant) (r : Request) (o : OutcomeRecord) (rest : List OutcomeRecord) (s : State), s.quiet
    ∧ s.exch.part = PartState.running ∧ s.lastBurst g r ∧ r.tag = ReqTag.freshMark
    ∧ g.write.isSome = true ∧ s.exch.outcomes = o :: rest
    ∧ (∀ i c b f w x a n, o.payload ≠ Payload.printEnd true i c b f w x a n)
    ∧ s.exch.unannounced + 1 < s.exch.settings.threshold
    ∧ reached s.clock ((if s.exch.unannounced = 0 then s.clock else s.exch.firstUnannounced) + s.exch.settings.linger) = false :=
  ⟨{ place := 3, address := 66560, length := 1, write := some [1#8], issued := 9000 },
    { tag := .freshMark, address := 66560, length := 1, write := some [1#8] }, outcome, [],
    { withExch (fun x => { x with outcomes := [outcome], unannounced := 3, firstUnannounced := 9990, logPos := 255
                                  settings := { x.settings with notify := 1, logSize := 256, linger := 100 } }) with
      mover := granted .freshMark (some [1#8]) },
    by decide, by decide, by decide, by decide, by decide, by decide, by simp [outcome], by decide, by decide⟩

theorem witness_RecordWritten_body : ∃ (g : Grant) (r : Request) (n : Nat) (left : List Header) (fence : List Nat) (h : Header)
    (b : Option (List Byte)) (s : State), s.quiet ∧ s.exch.part = PartState.running ∧ s.lastBurst g r ∧ r.tag = ReqTag.body n ∧ g.write = none
    ∧ s.exch.scan = Scan.taking left fence (some { header := h, body := b }) ∧ h.kind ≠ 10 ∧ n ∉ s.exch.inFlight :=
  ⟨{ place := 1, address := 66560, length := 1, write := none, issued := 9000 }, { tag := .body 5, address := 66560, length := 1 }, 5,
    [⟨6, 3, 8, 7⟩], [4], ⟨5, 3, 321, 7⟩, none,
    { withExch (fun x => { x with scan := .taking [⟨6, 3, 8, 7⟩] [4] (some { header := ⟨5, 3, 321, 7⟩, body := none }) }) with
      mover := granted (.body 5) none }, by decide⟩

theorem witness_PricesAsked_read : ∃ (g : Grant) (r : Request) (p : PriceLoad) (s : State), s.quiet ∧ s.lastBurst g r ∧ r.tag = ReqTag.prices
    ∧ g.write = none ∧ s.priceLoads = [p] :=
  let r : Request := { tag := .prices, address := 4096, length := 768, moved := 512, got := List.replicate 512 0#8 }
  let g : Grant := { place := 11, address := 4608, length := 256, write := none, issued := 9000 }
  ⟨g, r, { ticket := tk, address := 4096 }, { calmPart with priceLoads := [{ ticket := tk, address := 4096 }], mover := { requests := [r], grant := some g } },
    by decide, ⟨rfl, rfl, by decide⟩, rfl, rfl, rfl⟩

/-- The run that prints is ending, or has no reprint left. -/
theorem witness_PrintFallsSilent_unresolved : ∃ (e : Fin 2) (r : PrintRecord) (ph : Phase) (a : Run) (o : Order) (s : State),
    s.calm 2 ∧ (s.ports.get e).record = some r ∧ (s.ports.get e).phase = some ph ∧ ph ≠ Phase.ended ∧ (s.ports.get e).state = EngineState.printing
    ∧ reached s.clock ((s.ports.get e).signalAt + 2000) = true ∧ (s.sched.get e).active = some a ∧ a.ending = true ∧ s.toneLoads = []
    ∧ s.findOrder r.print.order = some o ∧ o.state = OrderState.unresolved :=
  ⟨1, record, .pass .m, { run with ending := true }, ord .unresolved, silentPart .unresolved { run with ending := true }, by decide⟩

theorem witness_PrintFallsSilent_producing : ∃ (e : Fin 2) (r : PrintRecord) (ph : Phase) (a : Run) (o : Order) (k : Nat) (other : Item) (s : State),
    s.calm 2 ∧ (s.ports.get e).record = some r ∧ (s.ports.get e).phase = some ph ∧ ph ≠ Phase.ended ∧ (s.ports.get e).state = EngineState.printing
    ∧ reached s.clock ((s.ports.get e).signalAt + 2000) = true ∧ (s.sched.get e).active = some a ∧ a.reprintsLeft = 0 ∧ s.toneLoads = []
    ∧ s.findOrder r.print.order = some o ∧ o.state = OrderState.producing ∧ k ≠ r.print.item ∧ o.items[k]? = some other
    ∧ other.delivered + other.undeliverable < other.copies :=
  ⟨1, record, .pass .m, run, ord .producing, 1, item, silentPart .producing run, by decide⟩

theorem witness_BlockHandedOn : ∃ (n : Fin 4) (data : List Byte) (r : ReadEntry) (q : List ReadEntry) (p : ReadPos) (e : Extent) (b : Nat) (s : State),
    s.calm 0 ∧ (s.slots.get n).state = SlotState.reading ∧ (s.slots.get n).queue = r :: q ∧ (s.slots.get n).pos = some p
    ∧ r.extents[p.extent]? = some e ∧ (s.slots.get n).request = some (.block b) ∧ data.length = 512 :=
  ⟨1, List.replicate 512 1#8, readOf, [], { extent := 0, block := 1, attempt := 2 }, ext, 11, withSlot readingSlot,
    by decide, by decide, by decide, by decide, by decide, by decide, List.length_replicate⟩

theorem witness_OvercoatLine : ∃ (e : Fin 2) (h : InHand) (s : State), (s.renderers.get e).pass = some Pass.o ∧ (s.renderers.get e).inHand = some h :=
  ⟨1, inHand,
    { calmPart with renderers := ⟨{}, { pass := some .o, lineIndex := 3, inHand := some inHand, latched := { overcoat := 501 } }⟩ }, by decide⟩

theorem witness_SettlementFigures_surplus : ∃ o : Order, 0 < (settlementOf o).surplus ∧ ∀ i ∈ o.items, i.delivered = 0 :=
  ⟨{ ord .producing with items := [copiesOf 0 5 (some 20)], held := some 30, cash := 100 }, by decide⟩

theorem witness_SettlementFigures_shortfall : ∃ o : Order, 0 < (settlementOf o).shortfall ∧ ∀ i ∈ o.items, i.delivered ≤ i.copies :=
  ⟨{ ord .producing with held := some 30, cash := 1 }, by decide⟩

theorem witness_SettlementFigures_capture : ∃ (n : Nat) (o w : Order) (s : State),
    s.findOrder n = some w ∧ o.held.isSome = true ∧ 0 < (settlementOf o).capture :=
  ⟨7, { ord .producing with held := some 30, cash := 10 }, ord .settling, withOrder (ord .settling), by decide⟩

theorem witness_SettlementFigures_release : ∃ (n : Nat) (o w : Order) (s : State),
    s.findOrder n = some w ∧ o.held.isSome = true ∧ ¬ 0 < (settlementOf o).capture :=
  ⟨7, { ord .producing with held := some 30, cash := 100 }, ord .settling, withOrder (ord .settling), by decide⟩

theorem witness_SettlementFigures_close : ∃ (n : Nat) (o w : Order) (s : State), s.findOrder n = some w ∧ ¬ o.held.isSome = true :=
  ⟨7, { ord .producing with held := none }, ord .settling, withOrder (ord .settling), by decide⟩

/-- A busy part in which the conditions that every step keeps hold, with a command waiting, goes on. -/
theorem witness_invariants : ∃ s u : State, s.withinRoom ∧ s.cash.obeysR162 ∧ s.obeysR3 ∧ step s = .next u :=
  let s : State :=
    { withOrder (ord .producing) with
      pending := [.attnEnableWrite 0x7F#32]
      cash := { phase := .bound, bound := 7, seen := 3, need := 9, inhibit := false }
      exch := { calmPart.exch with outcomes := List.replicate 15 outcome, reservedPlaces := 1 } }
  ⟨s, { s with pending := [], exch := s.exch.setAttention s.exch.attnCause 0x7F#7 }, by decide, by decide, by decide, rfl⟩

end Sys2Proof.Tests
end

section
/-! SUPPORT. What leaves the order table as it is: every operation of another block, one lemma each in the order of the model, and the parts of the
order table's own work that write no record (R1). -/

namespace Sys2Proof.Machine

/-! ## Branches and lists -/

@[simp] theorem State.orders_ite (c : Prop) [Decidable c] (s t : State) :
    (if c then s else t).orders = if c then s.orders else t.orders := apply_ite State.orders c s t

/-- A list of updates that each leave the order table leaves it. -/
theorem State.foldl_orders {α : Type} (f : State → α → State) (hf : ∀ s a, (f s a).orders = s.orders) (l : List α) (s : State) :
    (l.foldl f s).orders = s.orders := by
  induction l generalizing s with
  | nil => rfl
  | cons a l ih => rw [List.foldl_cons, ih, hf]

/-! ## The clock -/

@[simp] theorem State.advanceTo_orders (t : Nat) (s : State) : (s.advanceTo t).orders = s.orders := by
  simp [State.advanceTo]

/-! ## Notices -/

@[simp] theorem State.openWindow_orders (why : CashReason) (s : State) : (s.openWindow why).orders = s.orders := by
  simp [State.openWindow]
@[simp] theorem State.departure_orders (n : Nat) (funded : Bool) (s : State) : (s.departure n funded).orders = s.orders := by
  simp [State.departure]
@[simp] theorem State.holdNotice_orders (n need : Nat) (s : State) : (s.holdNotice n need).orders = s.orders := by
  simp [State.holdNotice]
@[simp] theorem State.unreserve_orders (seq : Nat) (s : State) : (s.unreserve seq).orders = s.orders := rfl
@[simp] theorem State.orphanReads_orders (n : Nat) (s : State) : (s.orphanReads n).orders = s.orders := rfl
@[simp] theorem State.endReads_orders (code : ResultCode) (l : List ReadEntry) (s : State) : (s.endReads code l).orders = s.orders := by
  induction l generalizing s with
  | nil => rfl
  | cons a l ih => simp [State.endReads, ih]
@[simp] theorem State.cancelReadsAt_orders (n : Nat) (k : Fin 4) (s : State) : (s.cancelReadsAt n k).orders = s.orders := by
  simp [State.cancelReadsAt]
@[simp] theorem State.cancelReads_orders (n : Nat) (s : State) : (s.cancelReads n).orders = s.orders := State.foldl_orders _ (by simp) _ s

/-! ## Payment tickets -/

@[simp] theorem State.endPay_orders (t : Option Ticket) (code : ResultCode) (detail : Nat) (s : State) :
    (s.endPay t code detail).orders = s.orders := by
  simp only [State.endPay]; split <;> simp

/-! ## The cash acceptor -/

@[simp] theorem State.popCash_orders (s : State) : s.popCash.orders = s.orders := rfl
@[simp] theorem State.checkBinds_orders (s : State) : s.checkBinds.orders = s.orders := by
  simp [State.checkBinds]
@[simp] theorem State.emitCash_orders (event : CashEvent) (order count amount credited : Nat) (reason : Option CashReason) (seq : Nat) (s : State) :
    (s.emitCash event order count amount credited reason seq).orders = s.orders := rfl
@[simp] theorem State.strayCash_orders (count : Nat) (why : CashReason) (s : State) : (s.strayCash count why).orders = s.orders := by
  simp [State.strayCash]
@[simp] theorem State.pulseCompleted_orders (length : Nat) (s : State) : (s.pulseCompleted length).orders = s.orders := by
  simp [State.pulseCompleted]
@[simp] theorem State.lineFaultSet_orders (s : State) : s.lineFaultSet.orders = s.orders := by
  simp [State.lineFaultSet]
@[simp] theorem State.lineFaultCleared_orders (s : State) : s.lineFaultCleared.orders = s.orders := by
  simp [State.lineFaultCleared]
@[simp] theorem State.cashFaultApplied_orders (s : State) : s.cashFaultApplied.orders = s.orders := by
  simp only [State.cashFaultApplied]; split <;> simp
@[simp] theorem State.cashBindApplied_orders (s : State) : s.cashBindApplied.orders = s.orders := by
  simp only [State.cashBindApplied]; split <;> simp
@[simp] theorem State.payCashUnbind_orders (t : Ticket) (s : State) : (s.payCashUnbind t).orders = s.orders := by
  simp only [State.payCashUnbind]; split <;> simp
@[simp] theorem State.windowExpired_orders (s : State) : s.windowExpired.orders = s.orders := by
  simp only [State.windowExpired]; split <;> simp
@[simp] theorem State.cashStrayApplied_orders (s : State) : s.cashStrayApplied.orders = s.orders := by
  simp only [State.cashStrayApplied]; split <;> simp

/-! ## The card intake unit -/

@[simp] theorem State.emitCard_orders (n : Fin 4) (cause : CardCause) (prev : SlotState) (attempts order : Nat)
    (failure : Option IdentifyFailure) (s : State) :
    (s.emitCard n cause prev attempts order failure).orders = s.orders := rfl
@[simp] theorem State.declareInsertion_orders (n : Fin 4) (s : State) : (s.declareInsertion n).orders = s.orders := by
  simp [State.declareInsertion]
@[simp] theorem State.insertionApplied_orders (n : Fin 4) (s : State) : (s.insertionApplied n).orders = s.orders := by
  simp [State.insertionApplied]
@[simp] theorem State.declareRemoval_orders (n : Fin 4) (s : State) : (s.declareRemoval n).orders = s.orders := by
  simp [State.declareRemoval]
@[simp] theorem State.reportStaging_orders (r : ReadEntry) (k : StagingReport) (s : State) : (s.reportStaging r k).orders = s.orders := by
  simp [State.reportStaging]
@[simp] theorem State.reportReadEnd_orders (r : ReadEntry) (s : State) : (s.reportReadEnd r).orders = s.orders := by
  simp [State.reportReadEnd]
@[simp] theorem State.reportReadEnds_orders (l : List ReadEntry) (s : State) : (s.reportReadEnds l).orders = s.orders := by
  induction l generalizing s with
  | nil => rfl
  | cons a l ih => simp [State.reportReadEnds, ih]
@[simp] theorem State.endParked_orders (n : Fin 4) (s : State) : (s.endParked n).orders = s.orders := by
  simp only [State.endParked]; rw [State.foldl_orders _ (by simp)]; rfl
@[simp] theorem State.removalApplied_orders (n : Fin 4) (s : State) : (s.removalApplied n).orders = s.orders := by
  simp only [State.removalApplied]; (repeat' split) <;> simp
@[simp] theorem State.settleEnd_orders (n : Fin 4) (s : State) : (s.settleEnd n).orders = s.orders := by
  simp [State.settleEnd]
@[simp] theorem State.identifyFailed_orders (n : Fin 4) (why : IdentifyFailure) (s : State) : (s.identifyFailed n why).orders = s.orders := by
  simp [State.identifyFailed]
@[simp] theorem State.identifyAnswered_orders (n : Fin 4) (capacity check : Nat) (s : State) :
    (s.identifyAnswered n capacity check).orders = s.orders := by
  simp [State.identifyAnswered]
@[simp] theorem State.identifyTimedOut_orders (n : Fin 4) (s : State) : (s.identifyTimedOut n).orders = s.orders := by
  simp [State.identifyTimedOut]
@[simp] theorem State.identified_orders (n : Fin 4) (capacity : Nat) (s : State) : (s.identified n capacity).orders = s.orders := by
  simp [State.identified]
@[simp] theorem State.slotFaulted_orders (n : Fin 4) (why : IdentifyFailure) (s : State) : (s.slotFaulted n why).orders = s.orders := by
  simp [State.slotFaulted]
@[simp] theorem State.startRead_orders (n : Fin 4) (s : State) : (s.startRead n).orders = s.orders := by
  simp only [State.startRead]; split <;> simp
@[simp] theorem State.readBegin_orders (n : Fin 4) (s : State) : (s.readBegin n).orders = s.orders := by
  simp only [State.readBegin]; split <;> simp
@[simp] theorem State.queueEmpty_orders (n : Fin 4) (order : Nat) (s : State) : (s.queueEmpty n order).orders = s.orders := by
  simp [State.queueEmpty]
@[simp] theorem State.endRead_orders (n : Fin 4) (code : ResultCode) (s : State) : (s.endRead n code).orders = s.orders := by
  simp only [State.endRead]; split <;> simp
@[simp] theorem State.blockFailed_orders (n : Fin 4) (s : State) : (s.blockFailed n).orders = s.orders := by
  simp only [State.blockFailed]; split <;> simp
@[simp] theorem State.blockAnswered_orders (n : Fin 4) (data : List Byte) (check : Nat) (s : State) :
    (s.blockAnswered n data check).orders = s.orders := by
  simp only [State.blockAnswered]; split <;> simp
@[simp] theorem State.blockTimedOut_orders (n : Fin 4) (s : State) : (s.blockTimedOut n).orders = s.orders := by
  simp only [State.blockTimedOut]; split <;> simp
@[simp] theorem State.blockWritten_orders (n : Fin 4) (s : State) : (s.blockWritten n).orders = s.orders := by
  simp only [State.blockWritten]; (repeat' split) <;> simp
@[simp] theorem State.blockWriteFailed_orders (n : Fin 4) (s : State) : (s.blockWriteFailed n).orders = s.orders := by
  simp only [State.blockWriteFailed]; split <;> simp
@[simp] theorem State.readOrder_orders (t : Ticket) (n : Fin 4) (item : Nat) (extents : List Extent) (s : State) :
    (s.readOrder t n item extents).orders = s.orders := by
  simp only [State.readOrder]; split <;> simp
@[simp] theorem State.cardRead_orders (t : Ticket) (item : Nat) (extents : List Extent) (atTake : ReadCheck) (s : State) :
    (s.cardRead t item extents atTake).orders = s.orders := by
  simp only [State.cardRead]; split <;> simp
@[simp] theorem State.stopReadsAt_orders (n : Fin 4) (s : State) : (s.stopReadsAt n).orders = s.orders := by
  simp [State.stopReadsAt]
@[simp] theorem State.stopReads_orders (s : State) : s.stopReads.orders = s.orders := State.foldl_orders _ (by simp) _ s

/-! ## The counter block -/

@[simp] theorem State.startReportTimer_orders (s : State) : s.startReportTimer.orders = s.orders := rfl
@[simp] theorem State.readCounters_orders (t : Ticket) (s : State) : (s.readCounters t).orders = s.orders := rfl
@[simp] theorem State.reportTimerExpired_orders (s : State) : s.reportTimerExpired.orders = s.orders := by
  simp only [State.reportTimerExpired]; split <;> simp
@[simp] theorem State.endReports_orders (number : Nat) (l : List Ticket) (s : State) : (s.endReports number l).orders = s.orders := by
  induction l generalizing s with
  | nil => rfl
  | cons a l ih => simp [State.endReports, ih]
@[simp] theorem State.emitParts_orders (number seq k : Nat) (l : List (List Nat × List Bool)) (s : State) :
    (s.emitParts number seq k l).orders = s.orders := by
  induction l generalizing k s with
  | nil => rfl
  | cons a l ih => simp [State.emitParts, ih]
@[simp] theorem State.counterReport_orders (s : State) : s.counterReport.orders = s.orders := by
  simp only [State.counterReport]; split <;> simp

/-! ## The exchange controller -/

@[simp] theorem State.announce_orders (s : State) : s.announce.orders = s.orders := rfl
@[simp] theorem State.notifyTest_orders (s : State) : s.notifyTest.orders = s.orders := by
  simp only [State.notifyTest]; (repeat' split) <;> simp
@[simp] theorem State.readHeader_orders (slot : Nat) (found : List Header) (s : State) : (s.readHeader slot found).orders = s.orders := rfl
@[simp] theorem State.startScan_orders (s : State) : s.startScan.orders = s.orders := by
  simp [State.startScan]
@[simp] theorem State.endScan_orders (s : State) : s.endScan.orders = s.orders := by
  simp [State.endScan]
@[simp] theorem State.scanTrigger_orders (s : State) : s.scanTrigger.orders = s.orders := by
  simp [State.scanTrigger]
@[simp] theorem State.nextTake_orders (left : List Header) (fence : List Nat) (s : State) : (s.nextTake left fence).orders = s.orders := by
  simp only [State.nextTake]; split <;> simp
@[simp] theorem State.headerRead_orders (slot : Nat) (b : List Byte) (s : State) : (s.headerRead slot b).orders = s.orders := by
  simp only [State.headerRead]; split <;> simp
@[simp] theorem State.bodyRead_orders (slot : Nat) (b : List Byte) (s : State) : (s.bodyRead slot b).orders = s.orders := by
  simp only [State.bodyRead]; split <;> simp
@[simp] theorem State.enterStopping_orders (s : State) : s.enterStopping.orders = s.orders := by
  simp [State.enterStopping]
@[simp] theorem State.halt_orders (why : HaltCause) (s : State) : (s.halt why).orders = s.orders := by
  simp [State.halt]
@[simp] theorem State.stoppingTest_orders (s : State) : s.stoppingTest.orders = s.orders := by
  simp [State.stoppingTest]
@[simp] theorem State.readSetupBlock_orders (why : SetupCause) (s : State) : (s.readSetupBlock why).orders = s.orders := rfl
@[simp] theorem State.controlRun_orders (s : State) : s.controlRun.orders = s.orders := by
  simp only [State.controlRun]; split <;> simp
@[simp] theorem State.controlStop_orders (s : State) : s.controlStop.orders = s.orders := by
  simp only [State.controlStop]; split <;> simp
@[simp] theorem State.setupRead_orders (b : List Byte) (s : State) : (s.setupRead b).orders = s.orders := by
  simp only [State.setupRead]; split <;> simp
@[simp] theorem State.nextRefresh_orders (s : State) : s.nextRefresh.orders = s.orders := by
  simp only [State.nextRefresh]; split <;> simp
@[simp] theorem State.refreshSettings_orders (t : Ticket) (s : State) : (s.refreshSettings t).orders = s.orders := by
  simp [State.refreshSettings]
@[simp] theorem State.firstRunning_orders (s : State) : s.firstRunning.orders = s.orders := rfl
@[simp] theorem State.enterRunning_orders (s : State) : s.enterRunning.orders = s.orders := by
  simp [State.enterRunning]
@[simp] theorem State.settingsChanged_orders (old : Settings) (s : State) : (s.settingsChanged old).orders = s.orders := by
  simp [State.settingsChanged]
@[simp] theorem State.settingsApplied_orders (s : State) : s.settingsApplied.orders = s.orders := by
  simp only [State.settingsApplied]; (repeat' split) <;> simp
@[simp] theorem State.ticketPlace_orders (s : State) : s.ticketPlace.orders = s.orders := by
  simp only [State.ticketPlace]; split <;> simp
@[simp] theorem State.resultWritten_orders (slot : Nat) (s : State) : (s.resultWritten slot).orders = s.orders := rfl
@[simp] theorem State.doneWritten_orders (slot : Nat) (s : State) : (s.doneWritten slot).orders = s.orders := rfl
@[simp] theorem State.ownerWritten_orders (s : State) : s.ownerWritten.orders = s.orders := by
  simp only [State.ownerWritten]; split <;> simp
@[simp] theorem State.startRecord_orders (s : State) : s.startRecord.orders = s.orders := rfl
@[simp] theorem State.writeRecord_orders (s : State) : s.writeRecord.orders = s.orders := by
  simp only [State.writeRecord]; split <;> simp
@[simp] theorem State.markReread_orders (free : Bool) (s : State) : (s.markReread free).orders = s.orders := by
  simp [State.markReread]
@[simp] theorem State.markRead_orders (b : List Byte) (s : State) : (s.markRead b).orders = s.orders := by
  simp only [State.markRead]; split <;> simp
@[simp] theorem State.recordWritten_orders (s : State) : s.recordWritten.orders = s.orders := rfl
@[simp] theorem State.spoilNotice_orders (r : OutcomeRecord) (s : State) : (s.spoilNotice r).orders = s.orders := by
  simp only [State.spoilNotice]; (repeat' split) <;> simp
@[simp] theorem State.freshMarkWritten_orders (s : State) : s.freshMarkWritten.orders = s.orders := by
  simp only [State.freshMarkWritten]; split <;> simp
@[simp] theorem State.exchangeError_orders (tag : ReqTag) (s : State) : (s.exchangeError tag).orders = s.orders := by
  simp only [State.exchangeError]; split <;> simp
@[simp] theorem State.writeAttnCause_orders (v : Word32) (s : State) : (s.writeAttnCause v).orders = s.orders := rfl
@[simp] theorem State.writeAttnEnable_orders (v : Word32) (s : State) : (s.writeAttnEnable v).orders = s.orders := rfl
@[simp] theorem State.writeBaseLow_orders (v : Word32) (s : State) : (s.writeBaseLow v).orders = s.orders := by
  simp [State.writeBaseLow]
@[simp] theorem State.writeBaseHigh_orders (v : Word32) (s : State) : (s.writeBaseHigh v).orders = s.orders := by
  simp [State.writeBaseHigh]

/-! ## LOAD_PRICES -/

@[simp] theorem State.startPrices_orders (s : State) : s.startPrices.orders = s.orders := by
  simp only [State.startPrices]; split <;> simp
@[simp] theorem State.loadPrices_orders (t : Ticket) (address : Nat) (s : State) : (s.loadPrices t address).orders = s.orders := by
  simp only [State.loadPrices]; split_ifs <;> simp
@[simp] theorem State.pricesLeave_orders (s : State) : s.pricesLeave.orders = s.orders := by
  simp [State.pricesLeave]
@[simp] theorem State.pricesRead_orders (image : List Byte) (s : State) : (s.pricesRead image).orders = s.orders := by
  simp only [State.pricesRead]; (repeat' split) <;> simp
@[simp] theorem State.pricesFailed_orders (s : State) : s.pricesFailed.orders = s.orders := by
  simp only [State.pricesFailed]; split <;> simp

/-! ## The line renderers -/

@[simp] theorem State.reserve_orders (e : Fin 2) (profile : Nat) (s : State) : (s.reserve e profile).orders = s.orders := rfl
@[simp] theorem State.releaseProfile_orders (e : Fin 2) (s : State) : (s.releaseProfile e).orders = s.orders := rfl
@[simp] theorem State.toneHead_orders (s : State) : s.toneHead.orders = s.orders := by
  simp only [State.toneHead]; split <;> simp
@[simp] theorem State.loadTone_orders (t : Ticket) (profile colour address : Nat) (s : State) :
    (s.loadTone t profile colour address).orders = s.orders := by
  simp [State.loadTone]
@[simp] theorem State.toneLeaves_orders (profile : Nat) (s : State) : (s.toneLeaves profile).orders = s.orders := by
  simp [State.toneLeaves]
@[simp] theorem State.toneRead_orders (b : List Byte) (s : State) : (s.toneRead b).orders = s.orders := by
  simp only [State.toneRead]; split <;> simp
@[simp] theorem State.toneFailed_orders (s : State) : s.toneFailed.orders = s.orders := by
  simp only [State.toneFailed]; split <;> simp
@[simp] theorem State.fetchStep_orders (e : Fin 2) (s : State) : (s.fetchStep e).orders = s.orders := by
  simp only [State.fetchStep]; split <;> simp
@[simp] theorem State.renderBegin_orders (e : Fin 2) (a : Activity) (h : InHand) (s : State) : (s.renderBegin e a h).orders = s.orders := by
  simp [State.renderBegin]
@[simp] theorem State.renderEnd_orders (e : Fin 2) (s : State) : (s.renderEnd e).orders = s.orders := rfl
@[simp] theorem State.failLine_orders (e : Fin 2) (why : FailCause) (s : State) : (s.failLine e why).2.2.orders = s.orders := by
  simp [State.failLine]
@[simp] theorem State.renderLine_orders (e : Fin 2) (t : Nat) (s : State) : (s.renderLine e t).2.2.orders = s.orders := by
  simp only [State.renderLine]; (repeat' split) <;> simp
@[simp] theorem State.writeProofLine_orders (e : Fin 2) (p : Proof) (lines : Nat) (counts : List Nat) (s : State) :
    (s.writeProofLine e p lines counts).orders = s.orders := by
  simp [State.writeProofLine]
@[simp] theorem State.proofStep_orders (e : Fin 2) (s : State) : (s.proofStep e).orders = s.orders := by
  simp only [State.proofStep]; (repeat' split) <;> simp
@[simp] theorem State.proofReserve_orders (e : Fin 2) (s : State) : (s.proofReserve e).orders = s.orders := by
  simp only [State.proofReserve]; split <;> simp
@[simp] theorem State.proofFails_orders (e : Fin 2) (s : State) : (s.proofFails e).orders = s.orders := by
  simp only [State.proofFails]; split <;> simp
@[simp] theorem State.proofWritten_orders (e : Fin 2) (ok : Bool) (s : State) : (s.proofWritten e ok).orders = s.orders := by
  simp only [State.proofWritten]; split <;> simp
@[simp] theorem State.lineFetched_orders (e : Fin 2) (ok : Bool) (bytes : List Byte) (s : State) : (s.lineFetched e ok bytes).orders = s.orders := by
  simp only [State.lineFetched]; split <;> simp

/-! ## The memory mover -/

@[simp] theorem State.grantNext_orders (s : State) : s.grantNext.orders = s.orders := by
  simp only [State.grantNext]; (repeat' split) <;> simp

/-! ## The engine ports -/

@[simp] theorem State.emitEngine_orders (e : Fin 2) (cause : EngineCause) (prev : EngineState) (order seq : Nat) (s : State) :
    (s.emitEngine e cause prev order seq).orders = s.orders := rfl
@[simp] theorem State.portTo_orders (e : Fin 2) (new : EngineState) (cause : EngineCause) (order seq : Nat) (s : State) :
    (s.portTo e new cause order seq).orders = s.orders := by
  simp [State.portTo]
@[simp] theorem State.portLeaves_orders (e : Fin 2) (new : EngineState) (cause : EngineCause) (order seq : Nat) (s : State) :
    (s.portLeaves e new cause order seq).orders = s.orders := by
  simp [State.portLeaves]
@[simp] theorem State.offerBoundary_orders (e : Fin 2) (cause : Option EngineCause) (seq : Nat) (s : State) :
    (s.offerBoundary e cause seq).orders = s.orders := by
  simp [State.offerBoundary]
@[simp] theorem State.boundaryTest_orders (e : Fin 2) (cause : Option EngineCause) (seq : Nat) (s : State) :
    (s.boundaryTest e cause seq).orders = s.orders := by
  simp [State.boundaryTest]
@[simp] theorem State.boundaryAsked_orders (e : Fin 2) (cause : Option EngineCause) (seq : Nat) (s : State) :
    (s.boundaryAsked e cause seq).orders = s.orders := by
  simp [State.boundaryAsked]
@[simp] theorem State.portRests_orders (e : Fin 2) (new : EngineState) (s : State) : (s.portRests e new).orders = s.orders := by
  simp [State.portRests]
@[simp] theorem State.printWaits_orders (e : Fin 2) (p : Print) (s : State) : (s.printWaits e p).orders = s.orders := by
  simp [State.printWaits]
@[simp] theorem State.printStart_orders (e : Fin 2) (p : Print) (s : State) : (s.printStart e p).orders = s.orders := by
  simp only [State.printStart]; split <;> simp
@[simp] theorem State.printEnd_orders (e : Fin 2) (s : State) : (s.printEnd e).orders = s.orders := by
  simp only [State.printEnd]; split <;> simp
@[simp] theorem State.faultPrint_orders (e : Fin 2) (code : FaultCode) (s : State) : (s.faultPrint e code).orders = s.orders := rfl
@[simp] theorem State.beginPass_orders (e : Fin 2) (p : Pass) (r : PrintRecord) (s : State) : (s.beginPass e p r).orders = s.orders := rfl
@[simp] theorem State.readyInPrint_orders (e : Fin 2) (r : PrintRecord) (ph : Phase) (s : State) : (s.readyInPrint e r ph).orders = s.orders := by
  simp only [State.readyInPrint]; (repeat' split) <;> simp
@[simp] theorem State.readyAtRest_orders (e : Fin 2) (temp : Nat) (s : State) : (s.readyAtRest e temp).orders = s.orders := by
  simp only [State.readyAtRest]; split <;> simp
@[simp] theorem State.mechReady_orders (e : Fin 2) (temp : Nat) (s : State) : (s.mechReady e temp).orders = s.orders := by
  simp only [State.mechReady]; (repeat' split) <;> simp
@[simp] theorem State.mechFault_orders (e : Fin 2) (code : MechFaultCode) (s : State) : (s.mechFault e code).orders = s.orders := by
  simp only [State.mechFault]; (repeat' split) <;> simp
@[simp] theorem State.answerLine_orders (e : Fin 2) (temp : Nat) (r : PrintRecord) (s : State) : (s.answerLine e temp r).orders = s.orders := by
  simp [State.answerLine]
@[simp] theorem State.mechLineRequest_orders (e : Fin 2) (temp : Nat) (s : State) : (s.mechLineRequest e temp).orders = s.orders := by
  simp only [State.mechLineRequest]; (repeat' split) <;> simp
@[simp] theorem State.mechEjectDone_orders (e : Fin 2) (temp : Nat) (s : State) : (s.mechEjectDone e temp).orders = s.orders := by
  simp only [State.mechEjectDone]; (repeat' split) <;> simp
@[simp] theorem State.engineSilence_orders (e : Fin 2) (s : State) : (s.engineSilence e).orders = s.orders := by
  simp [State.engineSilence]
@[simp] theorem State.printSilence_orders (e : Fin 2) (s : State) : (s.printSilence e).orders = s.orders := by
  simp [State.printSilence]
@[simp] theorem State.profileFreeAt_orders (e : Fin 2) (profile : Nat) (s : State) : (s.profileFreeAt e profile).orders = s.orders := by
  simp only [State.profileFreeAt]; split <;> simp
@[simp] theorem State.spoilWritten_orders (e : Fin 2) (s : State) : (s.spoilWritten e).orders = s.orders := by
  simp [State.spoilWritten]
@[simp] theorem State.pauseEngine_orders (t : Ticket) (engine : Nat) (s : State) : (s.pauseEngine t engine).orders = s.orders := by
  simp only [State.pauseEngine]; split <;> simp
@[simp] theorem State.resumeEngine_orders (t : Ticket) (engine : Nat) (s : State) : (s.resumeEngine t engine).orders = s.orders := by
  simp only [State.resumeEngine]; split <;> simp
@[simp] theorem State.resetEngine_orders (t : Ticket) (engine : Nat) (s : State) : (s.resetEngine t engine).orders = s.orders := by
  simp only [State.resetEngine]; split <;> simp
@[simp] theorem State.setMedia_orders (t : Ticket) (engine kind sheets ribbons : Nat) (s : State) :
    (s.setMedia t engine kind sheets ribbons).orders = s.orders := by
  simp only [State.setMedia]; split <;> simp
@[simp] theorem State.startProof_orders (t : Ticket) (engine profile finish temp lines source dest : Nat) (s : State) :
    (s.startProof t engine profile finish temp lines source dest).orders = s.orders := by
  simp only [State.startProof]; split <;> simp
@[simp] theorem State.proofEnd_orders (e : Fin 2) (s : State) : (s.proofEnd e).orders = s.orders := by
  simp only [State.proofEnd]; split <;> simp

/-! ## The print scheduler -/

@[simp] theorem State.emitRun_orders (e : Fin 2) (event : RunEvent) (kind : Nat) (cause : Option RunCause) (runs voids order : Nat) (s : State) :
    (s.emitRun e event kind cause runs voids order).orders = s.orders := rfl
@[simp] theorem State.giveUpReprint_orders (n : Nat) (item : Option Nat) (s : State) : (s.giveUpReprint n item).orders = s.orders := by
  simp only [State.giveUpReprint]; split <;> simp
@[simp] theorem State.runEndReport_orders (n : Nat) (s : State) : (s.runEndReport n).orders = s.orders := rfl
@[simp] theorem State.giveUpReprints_orders (l : List DirEntry) (s : State) : (s.giveUpReprints l).orders = s.orders := by
  induction l generalizing s with
  | nil => rfl
  | cons a l ih => simp [State.giveUpReprints, ih]
@[simp] theorem State.discardVoid_orders (e : Fin 2) (s : State) : (s.discardVoid e).orders = s.orders := by
  simp [State.discardVoid]
@[simp] theorem State.placeOrder_orders (n : Nat) (retry : Bool) (excluded : Option (Fin 2)) (s : State) :
    (s.placeOrder n retry excluded).orders = s.orders := by
  simp only [State.placeOrder]; split <;> simp
@[simp] theorem State.holdDecision_orders (e : Fin 2) (s : State) : (s.holdDecision e).orders = s.orders := rfl
@[simp] theorem State.holdTest_orders (e : Fin 2) (s : State) : (s.holdTest e).orders = s.orders := rfl
@[simp] theorem State.holdArrival_orders (e : Fin 2) (s : State) : (s.holdArrival e).orders = s.orders := rfl
@[simp] theorem State.wake_orders (e : Fin 2) (s : State) : (s.wake e).orders = s.orders := by
  simp [State.wake]
@[simp] theorem State.wakeEngine_orders (e : Fin 2) (s : State) : (s.wakeEngine e).orders = s.orders := by
  simp [State.wakeEngine]
@[simp] theorem State.answerHeld_orders (e : Fin 2) (s : State) : (s.answerHeld e).orders = s.orders := by
  simp [State.answerHeld]
@[simp] theorem State.retryAwaiting_orders (s : State) : s.retryAwaiting.orders = s.orders := by
  simp [State.retryAwaiting]
@[simp] theorem State.startPush_orders (e : Fin 2) (r : Run) (saved : SavedAs) (s : State) : (s.startPush e r saved).orders = s.orders := rfl
@[simp] theorem State.startPop_orders (e : Fin 2) (s : State) : (s.startPop e).orders = s.orders := rfl
@[simp] theorem State.holdOffer_orders (e : Fin 2) (s : State) : (s.holdOffer e).orders = s.orders := by
  simp [State.holdOffer]
@[simp] theorem State.deferDecision_orders (e : Fin 2) (s : State) : (s.deferDecision e).orders = s.orders := by
  simp [State.deferDecision]
@[simp] theorem State.decision_orders (e : Fin 2) (s : State) : (s.decision e).orders = s.orders := by
  simp only [State.decision]; (repeat' split) <;> simp
@[simp] theorem State.arrival_orders (e : Fin 2) (s : State) : (s.arrival e).orders = s.orders := by
  simp only [State.arrival]; split <;> simp
@[simp] theorem State.takeRun_orders (e : Fin 2) (r : Run) (s : State) : (s.takeRun e r).orders = s.orders := rfl
@[simp] theorem State.choose_orders (e : Fin 2) (s : State) : (s.choose e).orders = s.orders := by
  simp only [State.choose]; (repeat' split) <;> simp
@[simp] theorem State.handPrint_orders (e : Fin 2) (s : State) : (s.handPrint e).orders = s.orders := by
  simp only [State.handPrint]; (repeat' split) <;> simp
@[simp] theorem State.blockActive_orders (e : Fin 2) (w : Awaited) (s : State) : (s.blockActive e w).orders = s.orders := by
  simp [State.blockActive]
@[simp] theorem State.nextItem_orders (e : Fin 2) (r : Run) (s : State) : (s.nextItem e r).orders = s.orders := by
  simp only [State.nextItem]; (repeat' split) <;> simp
@[simp] theorem State.grantAnswered_orders (e : Fin 2) (p : Print) (a : GrantAnswer) (s : State) : (s.grantAnswered e p a).orders = s.orders := by
  simp only [State.grantAnswered]; split <;> simp
@[simp] theorem State.parkTest_orders (e : Fin 2) (s : State) : (s.parkTest e).orders = s.orders := by
  simp only [State.parkTest]; split <;> simp
@[simp] theorem State.endActive_orders (e : Fin 2) (cause : RunCause) (s : State) : (s.endActive e cause).orders = s.orders := by
  simp only [State.endActive]; split <;> simp
@[simp] theorem State.pushDone_orders (e : Fin 2) (pos : Nat) (r : Run) (why : SavedAs) (s : State) : (s.pushDone e pos r why).orders = s.orders := by
  simp [State.pushDone]
@[simp] theorem State.pushFailed_orders (e : Fin 2) (pos : Nat) (r : Run) (why : SavedAs) (s : State) :
    (s.pushFailed e pos r why).orders = s.orders := by
  simp only [State.pushFailed]; split <;> split <;> simp
@[simp] theorem State.pushWritten_orders (e : Fin 2) (ok : Bool) (s : State) : (s.pushWritten e ok).orders = s.orders := by
  simp only [State.pushWritten]; split <;> simp
@[simp] theorem State.loseRun_orders (e : Fin 2) (d : DirEntry) (cause : RunCause) (s : State) : (s.loseRun e d cause).orders = s.orders := by
  simp [State.loseRun]
@[simp] theorem State.popRead_orders (e : Fin 2) (ok : Bool) (bytes : List Byte) (s : State) : (s.popRead e ok bytes).orders = s.orders := by
  simp only [State.popRead]; split <;> simp
@[simp] theorem State.noticeAt_orders (e : Fin 2) (n : Nat) (w : Awaited) (s : State) : (s.noticeAt e n w).orders = s.orders := by
  simp [State.noticeAt]
@[simp] theorem State.schedEnd_orders (e : Fin 2) (n : Nat) (cause : RunCause) (s : State) : (s.schedEnd e n cause).orders = s.orders := by
  unfold State.schedEnd
  extract_lets x queued stack voided pushing active underWay ended
  clear_value ended
  split
  · rfl
  · cases ended <;> simp +zetaDelta
@[simp] theorem State.evacuate_orders (t : Ticket) (engine : Nat) (s : State) : (s.evacuate t engine).orders = s.orders := by
  simp only [State.evacuate]; split <;> simp
@[simp] theorem State.evacuated_orders (t : Ticket) (count : Nat) (s : State) : (s.evacuated t count).orders = s.orders := rfl

/-! ## The tender link -/

@[simp] theorem State.discardFrame_orders (s : State) : s.discardFrame.orders = s.orders := by
  simp [State.discardFrame]
@[simp] theorem State.frameAssembled_orders (f : List Byte) (s : State) : (s.frameAssembled f).orders = s.orders := by
  simp [State.frameAssembled]
@[simp] theorem State.receiveByte_orders (b : Byte) (s : State) : (s.receiveByte b).orders = s.orders := by
  simp only [State.receiveByte]; split <;> simp
@[simp] theorem State.receiveGap_orders (s : State) : s.receiveGap.orders = s.orders := by
  simp [State.receiveGap]
@[simp] theorem State.lineBytes_orders (bytes : List Byte) (s : State) : (s.lineBytes bytes).orders = s.orders := by
  simp only [State.lineBytes]; split
  · simp [State.foldl_orders _ fun s (b : Byte) => s.receiveByte_orders b]
  · rfl
@[simp] theorem State.loopedFrame_orders (f : List Byte) (s : State) : (s.loopedFrame f).orders = s.orders := by
  simp [State.loopedFrame]
@[simp] theorem State.emitTender_orders (event : TenderEvent) (prev new : Option TermState) (seq : Nat) (s : State) :
    (s.emitTender event prev new seq).orders = s.orders := rfl
@[simp] theorem State.emitRequest_orders (event : PayEvent) (e : TenderEntry) (seq : Nat) (mark : Option PayMark) (s : State) :
    (s.emitRequest event e seq mark).orders = s.orders := rfl
@[simp] theorem State.emitResult_orders (event : PayEvent) (order seq : Nat) (kind : RequestKind) (r : TenderResult) (whole : Bool)
    (mark : Option PayMark) (s : State) :
    (s.emitResult event order seq kind r whole mark).orders = s.orders := rfl
@[simp] theorem State.attendTender_orders (event : TenderEvent) (prev new : Option TermState) (s : State) :
    (s.attendTender event prev new).orders = s.orders := by
  simp [State.attendTender]
@[simp] theorem State.stateFrame_orders (code : TermState) (s : State) : (s.stateFrame code).orders = s.orders := by
  simp [State.stateFrame]
@[simp] theorem State.linkSilent_orders (s : State) : s.linkSilent.orders = s.orders := by
  simp only [State.linkSilent]; split <;> simp
@[simp] theorem State.lateResult_orders (seq : Nat) (r : TenderResult) (s : State) : (s.lateResult seq r).orders = s.orders := by
  simp only [State.lateResult]; split <;> simp
@[simp] theorem State.unawaitedQuery_orders (seq : Nat) (k : PayResult) (s : State) : (s.unawaitedQuery seq k).orders = s.orders := rfl
@[simp] theorem State.startFrame_orders (what : TxFor) (seq kind : Nat) (payload : List Byte) (s : State) :
    (s.startFrame what seq kind payload).orders = s.orders := rfl
@[simp] theorem State.startQuery_orders (o : Outstanding) (s : State) : (s.startQuery o).orders = s.orders := rfl
@[simp] theorem State.startTest_orders (d : TestSend) (s : State) : (s.startTest d).orders = s.orders := rfl
@[simp] theorem State.takeDeferred_orders (s : State) : s.takeDeferred.orders = s.orders := by
  simp [State.takeDeferred]
@[simp] theorem State.testSent_orders (bytes : List Byte) (s : State) : (s.testSent bytes).orders = s.orders := by
  simp only [State.testSent]; split <;> simp
@[simp] theorem State.transmitEnded_orders (s : State) : s.transmitEnded.orders = s.orders := by
  simp only [State.transmitEnded]; (repeat' split) <;> simp
@[simp] theorem State.responseExpired_orders (s : State) : s.responseExpired.orders = s.orders := by
  simp only [State.responseExpired]; (repeat' split) <;> simp
@[simp] theorem State.loopClose_orders (t : Ticket) (mode : Nat) (s : State) : (s.loopClose t mode).orders = s.orders := by
  simp [State.loopClose]
@[simp] theorem State.loopOpen_orders (t : Ticket) (s : State) : (s.loopOpen t).orders = s.orders := by
  simp [State.loopOpen]
@[simp] theorem State.testSend_orders (t : Ticket) (count : Nat) (s : State) : (s.testSend t count).orders = s.orders := by
  simp [State.testSend]
@[simp] theorem State.insertError_orders (t : Ticket) (s : State) : (s.insertError t).orders = s.orders := by
  simp [State.insertError]

/-! ## Timers -/

@[simp] theorem State.advance_orders (t : Option Nat) (s : State) : (s.advance t).orders = s.orders := by
  simp only [State.advance]; split <;> simp

/-! ## A millisecond -/

@[simp] theorem State.sampleCards_orders (s : State) : s.sampleCards.orders = s.orders := by
  simp [State.sampleCards]
@[simp] theorem State.samplePulse_orders (s : State) : s.samplePulse.orders = s.orders := by
  simp [State.samplePulse]
@[simp] theorem State.tick_orders (s : State) : s.tick.orders = s.orders := by
  simp [State.tick]
end Sys2Proof.Machine
end

section
/-! SUPPORT. The relations between an item's counts (R3) are kept by every step: each change of the counts keeps them, every other change of the order
table leaves the counts, and nothing else writes the table. Then O59. -/

namespace Sys2Proof.Machine

/-! ## The relations of R3 over lists -/

/-- Every item of a list keeps the relations of R3. -/
def ItemsSound (l : List Item) : Prop := ∀ i ∈ l, i.obeysR3

/-- Every item of every order of a list keeps the relations of R3. -/
def OrdersSound (l : List Order) : Prop := ∀ o ∈ l, ItemsSound o.items

theorem State.obeysR3_iff (s : State) : s.obeysR3 ↔ OrdersSound s.orders := Iff.rfl

@[simp] theorem OrdersSound_nil : OrdersSound [] := fun _ h => absurd h List.not_mem_nil

@[simp] theorem OrdersSound_append (l m : List Order) : OrdersSound (l ++ m) ↔ OrdersSound l ∧ OrdersSound m := by
  simp only [OrdersSound, List.mem_append]
  exact ⟨fun h => ⟨fun o ho => h o (.inl ho), fun o ho => h o (.inr ho)⟩, fun h o ho => ho.elim (h.1 o) (h.2 o)⟩

@[simp] theorem OrdersSound_singleton (o : Order) : OrdersSound [o] ↔ ItemsSound o.items := by simp [OrdersSound]

@[simp] theorem OrdersSound_ite (c : Prop) [Decidable c] (l m : List Order) :
    OrdersSound (if c then l else m) = if c then OrdersSound l else OrdersSound m := apply_ite OrdersSound c l m

@[simp] theorem OrdersSound.filter {l : List Order} (p : Order → Bool) (h : OrdersSound l) : OrdersSound (l.filter p) :=
  fun o ho => h o (List.mem_of_mem_filter ho)

/-- A change of the record of a number that keeps its items sound keeps the table sound. -/
@[simp] theorem OrdersSound.map_number {l : List Order} {n : Nat} {f : Order → Order}
    (hf : ∀ o, ItemsSound o.items → ItemsSound (f o).items) (h : OrdersSound l) :
    OrdersSound (l.map fun o => if o.number = n then f o else o) := by
  intro o ho
  obtain ⟨p, hp, rfl⟩ := List.mem_map.mp ho
  split
  · exact hf p (h p hp)
  · exact h p hp

@[simp] theorem ItemsSound_nil : ItemsSound [] := fun _ h => absurd h List.not_mem_nil

@[simp] theorem Order.modItem_items (k : Nat) (f : Item → Item) (o : Order) : (o.modItem k f).items = o.items.modify k f := rfl

/-- A change of one item that keeps the relations of R3 keeps the list sound. -/
@[simp] theorem ItemsSound_cons (i : Item) (l : List Item) : ItemsSound (i :: l) ↔ i.obeysR3 ∧ ItemsSound l := List.forall_mem_cons

/-- A change of one item that keeps the relations of R3 keeps the list sound. -/
@[simp] theorem ItemsSound.modify {l : List Item} {f : Item → Item} (hf : ∀ i : Item, i.obeysR3 → (f i).obeysR3) (k : Nat)
    (h : ItemsSound l) : ItemsSound (l.modify k f) := by
  induction l generalizing k with
  | nil => simp
  | cons i l ih =>
    obtain ⟨hi, hl⟩ := (ItemsSound_cons i l).mp h
    cases k with
    | zero => exact (ItemsSound_cons _ _).mpr ⟨hf i hi, hl⟩
    | succ k => exact (ItemsSound_cons _ _).mpr ⟨hi, ih k hl⟩

theorem OrdersSound.modOrder {s : State} {n : Nat} {f : Order → Order} (hf : ∀ o, ItemsSound o.items → ItemsSound (f o).items)
    (h : OrdersSound s.orders) : OrdersSound (s.modOrder n f).orders := by
  simpa using h.map_number hf

/-- A change of one item of the record of a number that keeps the relations of R3 keeps the table sound. -/
theorem OrdersSound.modItem {l : List Order} {f : Item → Item} (hf : ∀ i : Item, i.obeysR3 → (f i).obeysR3) {n k : Nat}
    (h : OrdersSound l) : OrdersSound (l.map fun o => if o.number = n then o.modItem k f else o) :=
  h.map_number fun _ ho => ho.modify hf k

/-! ## The changes of an item's counts (R3, R15, R16, R18, R20) -/

theorem Item.assign_obeysR3 (i : Item) (h : i.obeysR3) : i.assign.obeysR3 := by
  unfold Item.assign
  split
  · exact h
  · simp only [Item.obeysR3, Item.openCopies, beq_iff_eq] at *
    omega

theorem Item.withdrawOpen_obeysR3 (i : Item) (h : i.obeysR3) : i.withdrawOpen.obeysR3 := by
  simp only [Item.obeysR3, Item.withdrawOpen, Item.openCopies] at *
  omega

/-- A copy that is still printing may be accounted once more. -/
theorem Item.hasPrinting_iff (i : Item) : i.hasPrinting = true ↔ i.delivered + i.undeliverable < i.assigned + i.withdrawn := by
  simp [Item.hasPrinting]

theorem Item.afterPrint_obeysR3 (answer : Option CopyAnswer) (i : Item) (h : i.obeysR3) : (i.afterPrint answer).obeysR3 := by
  simp only [Item.afterPrint, Item.hasPrinting_iff]
  split
  · split
    · simp only [Item.obeysR3] at *; omega
    · exact h
  · exact h
  · split
    · simp only [Item.obeysR3] at *; omega
    · exact h

theorem Item.giveUp_obeysR3 (i : Item) (h : i.obeysR3) :
    Item.obeysR3 (if i.hasPrinting then { i with undeliverable := i.undeliverable + 1 } else i) := by
  simp only [Item.hasPrinting_iff]
  split
  · simp only [Item.obeysR3] at *; omega
  · exact h

theorem ItemDesc.item_obeysR3 (d : ItemDesc) : (ItemDesc.item d).obeysR3 := by simp [ItemDesc.item, Item.obeysR3]

theorem ItemsSound.append_items {l : List Item} (h : ItemsSound l) (ds : List ItemDesc) : ItemsSound (l ++ ds.map ItemDesc.item) := by
  intro i hi
  rcases List.mem_append.mp hi with hi | hi
  · exact h i hi
  · obtain ⟨d, -, rfl⟩ := List.mem_map.mp hi
    exact ItemDesc.item_obeysR3 d

/-- Unit prices entered leave the counts as they are. -/
theorem ItemsSound.priceItems {l : List Item} (h : ItemsSound l) (us : List Nat) : ItemsSound (priceItems l us) := by
  induction l generalizing us with
  | nil => cases us <;> exact ItemsSound_nil
  | cons i l ih =>
    cases us with
    | nil => exact h
    | cons u us =>
      obtain ⟨hi, hl⟩ := (ItemsSound_cons i l).mp h
      exact (ItemsSound_cons _ _).mpr ⟨hi, ih hl us⟩

theorem ItemsSound.withdrawn {l : List Item} (h : ItemsSound l) : ItemsSound (l.map Item.withdrawOpen) := by
  intro j hj
  obtain ⟨i, hi, rfl⟩ := List.mem_map.mp hj
  exact i.withdrawOpen_obeysR3 (h i hi)

section
variable {s : State}

/-! ## The order table -/

@[simp] theorem State.touch_sound (n : Nat) (h : OrdersSound s.orders) : OrdersSound (s.touch n).orders := by
  simp -implicitDefEqProofs [State.touch, h]
@[simp] theorem State.touchAtTake_sound (n : Nat) (h : OrdersSound s.orders) : OrdersSound (s.touchAtTake n).orders := by
  simp -implicitDefEqProofs [h, -List.map_map]
@[simp] theorem State.accept_sound (t : Ticket) (h : OrdersSound s.orders) : OrdersSound (s.accept t).orders := by
  rcases s.accept_orders t with e | e <;> simp -implicitDefEqProofs [e, h]
@[simp] theorem State.forLiveOrder_sound (t : Ticket) (kind : Nat) {f : State → State}
    (hf : OrdersSound s.orders → OrdersSound (f s).orders) (h : OrdersSound s.orders) :
    OrdersSound (s.forLiveOrder t kind f).orders := by
  simp only [State.forLiveOrder]; split_ifs <;> simp -implicitDefEqProofs [h, hf]
@[simp] theorem State.orderTo_sound (n : Nat) (new : OrderState) (cause : OrderCause) (seq : Nat) (h : OrdersSound s.orders) :
    OrdersSound (s.orderTo n new cause seq).orders := by
  simp only [State.orderTo]; split <;> simp -implicitDefEqProofs [h, -List.map_map]
@[simp] theorem State.freeOrder_sound (o : Order) (h : OrdersSound s.orders) : OrdersSound (s.freeOrder o).orders := by
  simp -implicitDefEqProofs [State.freeOrder, h]
@[simp] theorem State.closeNow_sound (n seq : Nat) (h : OrdersSound s.orders) : OrdersSound (s.closeNow n seq).orders := by
  simp only [State.closeNow]; split <;> simp -implicitDefEqProofs [h, -List.map_map]
@[simp] theorem State.recordRequest_sound (n : Nat) (r : OrderRequest) (ticket : Option Ticket) (h : OrdersSound s.orders) :
    OrdersSound (s.recordRequest n r ticket).orders := by
  simp only [State.recordRequest]; split <;> simp -implicitDefEqProofs [h, -List.map_map]
@[simp] theorem State.chooseCourse_sound (n seq : Nat) (o : Order) (h : OrdersSound s.orders) :
    OrdersSound (s.chooseCourse n seq o).orders := by
  simp only [State.chooseCourse]; split <;> simp -implicitDefEqProofs [h, -List.map_map]
@[simp] theorem State.settleOrder_sound (n : Nat) (cause : OrderCause) (seq : Nat) (h : OrdersSound s.orders) :
    OrdersSound (s.settleOrder n cause seq).orders := by
  simp only [State.settleOrder]; split <;> simp -implicitDefEqProofs [h, -List.map_map]
@[simp] theorem State.accountedTest_sound (n seq : Nat) (h : OrdersSound s.orders) : OrdersSound (s.accountedTest n seq).orders := by
  simp only [State.accountedTest]; split <;> simp -implicitDefEqProofs [h, -List.map_map]
@[simp] theorem State.quietTest_sound (n seq : Nat) (h : OrdersSound s.orders) : OrdersSound (s.quietTest n seq).orders := by
  simp only [State.quietTest]; split <;> simp -implicitDefEqProofs [h, -List.map_map]
@[simp] theorem State.fundingTest_sound (n seq : Nat) (h : OrdersSound s.orders) : OrdersSound (s.fundingTest n seq).orders := by
  simp only [State.fundingTest]; split <;> simp -implicitDefEqProofs [h, -List.map_map]
@[simp] theorem State.returnTest_sound (n : Nat) (cause : OrderCause) (seq : Nat) (h : OrdersSound s.orders) :
    OrdersSound (s.returnTest n cause seq).orders := by
  simp only [State.returnTest]; split <;> simp -implicitDefEqProofs [h, -List.map_map]
@[simp] theorem State.openOrder_sound (t : Ticket) (station cls profile finish takenAt : Nat) (h : OrdersSound s.orders) :
    OrdersSound (s.openOrder t station cls profile finish takenAt).orders := by
  simp only [State.openOrder]; split_ifs <;> simp -implicitDefEqProofs [h, -List.map_map]
@[simp] theorem State.addItems_sound (t : Ticket) (items : List ItemDesc) (h : OrdersSound s.orders) :
    OrdersSound (s.addItems t items).orders := by
  simp only [State.addItems]; (repeat' split) <;> simp -implicitDefEqProofs +contextual [h, ItemsSound.append_items, -List.map_map]
@[simp] theorem State.quoteOrder_sound (t : Ticket) (h : OrdersSound s.orders) : OrdersSound (s.quoteOrder t).orders := by
  simp only [State.quoteOrder]
  (repeat' split) <;> try simp [h]
  all_goals exact State.orderTo_sound _ _ _ _ (h.modOrder fun _ ho => ho.priceItems _)
@[simp] theorem State.zeroQuoteFunded_sound (n : Nat) (t : Ticket) (h : OrdersSound s.orders) :
    OrdersSound (s.zeroQuoteFunded n t).orders := by
  simp -implicitDefEqProofs [State.zeroQuoteFunded, h]
@[simp] theorem State.stagingReport_sound (n item : Nat) (r : StagingReport) (h : OrdersSound s.orders) :
    OrdersSound (s.stagingReport n item r).orders := by
  simp only [State.stagingReport]; (repeat' split) <;> simp -implicitDefEqProofs +contextual [h, -List.map_map]
@[simp] theorem State.raiseFunds_sound (n seq : Nat) (h : OrdersSound s.orders) : OrdersSound (s.raiseFunds n seq).orders := by
  simp only [State.raiseFunds]; split <;> simp -implicitDefEqProofs [h, -List.map_map]
@[simp] theorem State.payCard_sound (t : Ticket) (h : OrdersSound s.orders) : OrdersSound (s.payCard t).orders := by
  simp only [State.payCard]; (repeat' split) <;> simp -implicitDefEqProofs [h, -List.map_map]
@[simp] theorem State.holdAnswer_sound (n seq : Nat) (ticket : Option Ticket) (approved : Option (Nat × Nat)) (whole : Bool)
    (h : OrdersSound s.orders) :
    OrdersSound (s.holdAnswer n seq ticket approved whole).orders := by
  simp only [State.holdAnswer]; split <;> cases approved <;> simp -implicitDefEqProofs [h, -List.map_map]
@[simp] theorem State.orderUnresolved_sound (n seq : Nat) (ticket : Option Ticket) (reserved : Bool) (h : OrdersSound s.orders) :
    OrdersSound (s.orderUnresolved n seq ticket reserved).orders := by
  simp only [State.orderUnresolved]; (repeat' split) <;> simp -implicitDefEqProofs [h, -List.map_map]
@[simp] theorem State.captureAnswer_sound (n seq : Nat) (done : Bool) (h : OrdersSound s.orders) :
    OrdersSound (s.captureAnswer n seq done).orders := by
  simp only [State.captureAnswer]; split <;> simp -implicitDefEqProofs [h, -List.map_map]
@[simp] theorem State.releaseAnswer_sound (n seq : Nat) (h : OrdersSound s.orders) : OrdersSound (s.releaseAnswer n seq).orders := by
  simp only [State.releaseAnswer]; split <;> simp -implicitDefEqProofs [h, -List.map_map]
@[simp] theorem State.resumeOrder_sound (n : Nat) (new : OrderState) (cause : OrderCause) (seq : Nat) (h : OrdersSound s.orders) :
    OrdersSound (s.resumeOrder n new cause seq).orders := by
  simp -implicitDefEqProofs [State.resumeOrder, h]
@[simp] theorem State.applyReconciled_sound (n : Nat) (o : Order) (u : UnresolvedRequest) (a : Reconciled) (cause : OrderCause) (seq : Nat)
    (h : OrdersSound s.orders) :
    OrdersSound (s.applyReconciled n o u a cause seq).orders := by
  have hm : OrdersSound (s.modOrder n fun x => { x with unresolved := none }).orders := h.modOrder fun _ ho => ho
  simp only [State.applyReconciled]
  generalize (s.modOrder n fun x => { x with unresolved := none }) = v at hm ⊢
  cases a with
  | captureNone => exact State.recordRequest_sound _ _ _ (State.orderTo_sound _ _ _ _ (hm.modOrder fun _ ho => ho))
  | _ => simp -implicitDefEqProofs [hm, -List.map_map]
@[simp] theorem State.resolveOrder_sound (t : Ticket) (answer reference amount : Nat) (h : OrdersSound s.orders) :
    OrdersSound (s.resolveOrder t answer reference amount).orders := by
  simp only [State.resolveOrder]; (repeat' split) <;> simp -implicitDefEqProofs [h, -List.map_map]
@[simp] theorem State.acceptBind_sound (n seq : Nat) (h : OrdersSound s.orders) : OrdersSound (s.acceptBind n seq).orders := by
  simp -implicitDefEqProofs [State.acceptBind, h]
@[simp] theorem State.clearBound_sound (n : Nat) (h : OrdersSound s.orders) : OrdersSound (s.clearBound n).orders := by
  simp only [State.clearBound]
  split
  · exact h
  · split
    · exact State.quietTest_sound _ _ (State.returnTest_sound _ _ _ (h.modOrder fun _ ho => ho))
    · exact h
@[simp] theorem State.grantPrint_sound (e : Fin 2) (p : Print) (h : OrdersSound s.orders) : OrdersSound (s.grantPrint e p).orders := by
  simp only [State.grantPrint]; split <;> simp -implicitDefEqProofs +contextual [h, OrdersSound.modItem Item.assign_obeysR3]
@[simp] theorem State.printReport_sound (n item : Nat) (answer : Option CopyAnswer) (h : OrdersSound s.orders) :
    OrdersSound (s.printReport n item answer).orders := by
  simp -implicitDefEqProofs [State.printReport, h, OrdersSound.modItem (Item.afterPrint_obeysR3 answer)]
@[simp] theorem State.reprintGivenUp_sound (n item : Nat) (h : OrdersSound s.orders) : OrdersSound (s.reprintGivenUp n item).orders := by
  simp -implicitDefEqProofs [State.reprintGivenUp, h, OrdersSound.modItem Item.giveUp_obeysR3]
@[simp] theorem State.dropItem_sound (t : Ticket) (item : Nat) (h : OrdersSound s.orders) : OrdersSound (s.dropItem t item).orders := by
  simp only [State.dropItem]; (repeat' split) <;> simp -implicitDefEqProofs [h, OrdersSound.modItem Item.withdrawOpen_obeysR3]
@[simp] theorem State.cancelOrder_sound (o : Order) (cause : CancelCause) (seq : Nat) (h : OrdersSound s.orders) :
    OrdersSound (s.cancelOrder o cause seq).orders := by
  have hm : OrdersSound (((s.modOrder o.number fun o => o.cancelled cause).dropAwaiting o.number).cancelReads o.number).orders := by
    simpa using h.map_number fun _ ho => ho.withdrawn
  simp only [State.cancelOrder]
  generalize ((s.modOrder o.number fun o => o.cancelled cause).dropAwaiting o.number).cancelReads o.number = v at hm ⊢
  split <;> simp -implicitDefEqProofs [hm]
@[simp] theorem State.cancelTicket_sound (t : Ticket) (h : OrdersSound s.orders) : OrdersSound (s.cancelTicket t).orders := by
  simp only [State.cancelTicket]; (repeat' split) <;> simp -implicitDefEqProofs [h, -List.map_map]
@[simp] theorem State.abandonExpiry_sound (n : Nat) (h : OrdersSound s.orders) : OrdersSound (s.abandonExpiry n).orders := by
  simp only [State.abandonExpiry]; (repeat' split) <;> simp -implicitDefEqProofs [h, -List.map_map]

/-! ## The cash acceptor -/

@[simp] theorem State.checkBind_sound (t : Ticket) (h : OrdersSound s.orders) : OrdersSound (s.checkBind t).orders := by
  simp only [State.checkBind]; (repeat' split) <;> simp -implicitDefEqProofs [h, -List.map_map]
@[simp] theorem State.windowEndApplied_sound (h : OrdersSound s.orders) : OrdersSound (s.windowEndApplied).orders := by
  simp only [State.windowEndApplied]; split <;> simp -implicitDefEqProofs [h, -List.map_map]

/-! ## The exchange controller and the print scheduler -/

@[simp] theorem State.takenWritten_sound (h : OrdersSound s.orders) : OrdersSound (s.takenWritten).orders := by
  simp only [State.takenWritten]; split <;> simp -implicitDefEqProofs [h, -List.map_map]
@[simp] theorem State.placeKind_sound (n kind : Nat) (retry : Bool) (excluded : Option (Fin 2)) (h : OrdersSound s.orders) :
    OrdersSound (s.placeKind n kind retry excluded).orders := by
  simp only [State.placeKind]; (repeat' split) <;> simp -implicitDefEqProofs [h, -List.map_map]
@[simp] theorem State.placeDone_sound (n : Nat) (h : OrdersSound s.orders) : OrdersSound (s.placeDone n).orders := by
  simp only [State.placeDone]; (repeat' split) <;> simp -implicitDefEqProofs [h, -List.map_map]

/-! ## The tender link -/

@[simp] theorem State.startRequest_sound (e : TenderEntry) (h : OrdersSound s.orders) : OrdersSound (s.startRequest e).orders := by
  simp -implicitDefEqProofs [State.startRequest, h]
@[simp] theorem State.gapElapsed_sound (h : OrdersSound s.orders) : OrdersSound (s.gapElapsed).orders := by
  simp only [State.gapElapsed]; (repeat' split) <;> simp -implicitDefEqProofs [h, -List.map_map]
@[simp] theorem State.withdrawHold_sound (n : Nat) (h : OrdersSound s.orders) : OrdersSound (s.withdrawHold n).orders := by
  simp only [State.withdrawHold]; split <;> simp -implicitDefEqProofs [h, -List.map_map]
@[simp] theorem State.handResult_sound (e : TenderEntry) (seq : Nat) (r : TenderResult) (h : OrdersSound s.orders) :
    OrdersSound (s.handResult e seq r).orders := by
  cases r <;> simp -implicitDefEqProofs [State.handResult, h]
@[simp] theorem State.applyResult_sound (o : Outstanding) (r : TenderResult) (h : OrdersSound s.orders) :
    OrdersSound (s.applyResult o r).orders := by
  simp -implicitDefEqProofs [State.applyResult, h]
@[simp] theorem State.requestUnresolved_sound (o : Outstanding) (h : OrdersSound s.orders) :
    OrdersSound (s.requestUnresolved o).orders := by
  simp -implicitDefEqProofs [State.requestUnresolved, h]

/-! ## Credits and late results -/

/-- A credit keeps the items of its order. -/
theorem State.creditOrder_sound {n count value k : Nat} {u : State} (h : OrdersSound s.orders)
    (hc : s.creditOrder n count value = some (k, u)) : OrdersSound u.orders := by
  simp only [State.creditOrder] at hc
  split at hc
  · cases hc
  · split at hc
    · cases hc
    · cases hc; exact h.modOrder fun _ ho => ho
@[simp] theorem State.cashCreditApplied_sound (h : OrdersSound s.orders) : OrdersSound s.cashCreditApplied.orders := by
  simp only [State.cashCreditApplied]
  split
  · split
    · simp -implicitDefEqProofs [h]
    · rename_i k v hc
      have hv := State.creditOrder_sound h hc
      split <;> simp -implicitDefEqProofs [hv]
  · exact h
theorem State.offerLate_sound (seq : Nat) (r : TenderResult) (h : OrdersSound s.orders) : OrdersSound (s.offerLate seq r).2.orders := by
  simp only [State.offerLate]
  (repeat' split) <;> simp -implicitDefEqProofs [h]
@[simp] theorem State.unawaited_sound (seq : Nat) (r : TenderResult) (h : OrdersSound s.orders) :
    OrdersSound (s.unawaited seq r).orders := by
  have ho := State.offerLate_sound seq r h
  simp only [State.unawaited]
  (repeat' split) <;> simp_all -implicitDefEqProofs
@[simp] theorem State.resultFrame_sound (seq : Nat) (r : TenderResult) (h : OrdersSound s.orders) :
    OrdersSound (s.resultFrame seq r).orders := by
  simp only [State.resultFrame]; split <;> simp -implicitDefEqProofs [h]
@[simp] theorem State.pendingAnswer_sound (o : Outstanding) (h : OrdersSound s.orders) : OrdersSound (s.pendingAnswer o).orders := by
  simp -implicitDefEqProofs [State.pendingAnswer, h]
@[simp] theorem State.repeatAnswer_sound (o : Outstanding) (r : TenderResult) (h : OrdersSound s.orders) :
    OrdersSound (s.repeatAnswer o r).orders := by
  simp -implicitDefEqProofs [State.repeatAnswer, h]
@[simp] theorem State.processHead_sound (h : OrdersSound s.orders) : OrdersSound s.processHead.orders := by
  simp only [State.processHead]; (repeat' split) <;> simp -implicitDefEqProofs [h]
@[simp] theorem State.queryExpired_sound (h : OrdersSound s.orders) : OrdersSound s.queryExpired.orders := by
  simp only [State.queryExpired]; (repeat' split) <;> simp -implicitDefEqProofs [h]

/-! ## The memory mover's reports -/

@[simp] theorem State.exchangeDone_sound (tag : ReqTag) (b : List Byte) (h : OrdersSound s.orders) :
    OrdersSound (s.exchangeDone tag b).orders := by
  cases tag <;> simp -implicitDefEqProofs [State.exchangeDone, h]
@[simp] theorem State.clientEnd_sound (tag : ReqTag) (ok : Bool) (data : List Byte) (h : OrdersSound s.orders) :
    OrdersSound (s.clientEnd tag ok data).orders := by
  cases tag <;> simp -implicitDefEqProofs [State.clientEnd, h]
@[simp] theorem State.finishBurst_sound (r : BurstResult) (h : OrdersSound s.orders) : OrdersSound (s.finishBurst r).orders := by
  simp only [State.finishBurst]; (repeat' split) <;> simp -implicitDefEqProofs [h]
@[simp] theorem State.burstTimedOut_sound (h : OrdersSound s.orders) : OrdersSound s.burstTimedOut.orders := by
  simp only [State.burstTimedOut]; split <;> simp -implicitDefEqProofs [h]

/-! ## Requests in course -/

@[simp] theorem applyCmd_sound (c : Instr) (h : OrdersSound s.orders) : OrdersSound (applyCmd c s).orders := by
  cases c <;> simp -implicitDefEqProofs [applyCmd, h]
@[simp] theorem applyAct_sound (a : Act) (h : OrdersSound s.orders) : OrdersSound (applyAct a s).orders := by
  cases a <;> simp -implicitDefEqProofs [applyAct, h]
@[simp] theorem State.attempt_sound (j : Job) (h : OrdersSound s.orders) : OrdersSound (s.attempt j).orders :=
  applyAct_sound (s := { s with agenda := [] }) j.act h
@[simp] theorem State.enqueueWait_orders (j : Job) : (s.enqueueWait j).orders = s.orders := by simp [State.enqueueWait]
@[simp] theorem State.process_sound (j : Job) (h : OrdersSound s.orders) : OrdersSound (s.process j).orders := by
  simp -implicitDefEqProofs [State.process, h]
theorem State.housekeep_orders {t : State} (h : s.housekeep = some t) : t.orders = s.orders := by
  unfold State.housekeep at h
  split_ifs at h <;> cases h <;> simp
/-- What follows a change keeps the relations of R3. -/
theorem State.drain_sound (k : Nat) : ∀ s : State, OrdersSound s.orders → OrdersSound (State.drain k s).orders := by
  induction k with
  | zero => exact fun _ h => h
  | succ k ih =>
    intro s h
    simp only [State.drain]
    split
    · rename_i j rest _
      exact ih _ (State.process_sound (s := { s with agenda := rest }) j h)
    · split
      · rename_i t ht
        exact ih t (State.housekeep_orders ht ▸ h)
      · exact h
@[simp] theorem State.settle_sound (h : OrdersSound s.orders) : OrdersSound s.settle.orders := State.drain_sound _ s h
@[simp] theorem State.perform_sound (a : Act) (h : OrdersSound s.orders) : OrdersSound (s.perform a).orders :=
  State.settle_sound (s := s.push a) h
@[simp] theorem State.serveWaiting_sound (h : OrdersSound s.orders) : OrdersSound s.serveWaiting.orders := by
  have ha : ∀ (j : Job) (l : List Job), OrdersSound (State.attempt j { s with waiting := l }).orders :=
    fun j l => State.attempt_sound (s := { s with waiting := l }) j h
  simp only [State.serveWaiting, State.served]
  split
  · exact h
  · split_ifs
    · exact ha _ _
    · cases s.freeFollower _ _ with
      | none => exact h
      | some x => exact ha _ _

/-! ## Commands and steps -/

theorem State.taking_sound (t : Ticket) {f : State → State} (hf : ∀ v : State, OrdersSound v.orders → OrdersSound (f v).orders)
    (h : OrdersSound s.orders) : OrdersSound (s.taking t f).orders := by
  unfold State.taking
  split
  · exact h
  · exact hf _ (State.accept_sound t h)

/-- A ticket's step made through the requests in course. -/
@[simp] theorem State.taking_perform_sound (t : Ticket) (a : Act) (h : OrdersSound s.orders) :
    OrdersSound (s.taking t (State.perform a)).orders :=
  State.taking_sound t (fun _ hv => State.perform_sound a hv) h

/-- A ticket's step that leaves the order table, made at once for a live order or none. -/
theorem State.taking_forLiveOrder_sound (t : Ticket) (kind : Nat) {f : State → State} (hf : ∀ v, (f v).orders = v.orders)
    (h : OrdersSound s.orders) : OrdersSound (s.taking t fun v => (v.forLiveOrder t kind f).settle).orders :=
  State.taking_sound t (fun v hv => State.settle_sound (State.forLiveOrder_sound t kind (fun hv => hf v ▸ hv) hv)) h

theorem State.payCashBind_sound (t : Ticket) (h : OrdersSound s.orders) : OrdersSound (s.payCashBind t).orders := by
  simp -implicitDefEqProofs [State.payCashBind, h]

/-- No order is live after a reset (R188). -/
theorem State.afterReset_sound (s : State) : OrdersSound s.afterReset.orders := OrdersSound_nil

theorem State.softReset_sound (s : State) : OrdersSound s.softReset.orders := s.afterReset_sound

/-- Every command keeps the relations of R3. -/
theorem exec_sound (c : Instr) (h : OrdersSound s.orders) : ∃ v, exec c s = .next v ∧ OrdersSound v.orders := by
  cases c with
  | softReset => exact ⟨_, rfl, State.softReset_sound s⟩
  | powerOnReset => exact ⟨_, rfl, State.afterReset_sound s⟩
  | linkReset => exact ⟨_, rfl, State.softReset_sound s⟩
  | scanTimerExpiry =>
    refine ⟨_, rfl, State.settle_sound ?_⟩
    split <;> simp -implicitDefEqProofs [h]
  | logLingerExpiry =>
    refine ⟨_, rfl, State.settle_sound ?_⟩
    split <;> simp -implicitDefEqProofs [h]
  | loadPrices t address => exact ⟨_, rfl, State.taking_forLiveOrder_sound t _ (State.loadPrices_orders t address) h⟩
  | loadTone t p k a => exact ⟨_, rfl, State.taking_forLiveOrder_sound t _ (State.loadTone_orders t p k a) h⟩
  | refreshSettings t => exact ⟨_, rfl, State.taking_forLiveOrder_sound t _ (State.refreshSettings_orders t) h⟩
  | readCounters t => exact ⟨_, rfl, State.taking_forLiveOrder_sound t _ (State.readCounters_orders t) h⟩
  | payCashBind t => exact ⟨_, rfl, State.taking_sound t (fun _ => State.payCashBind_sound t) h⟩
  | cardRead t slot item es =>
    refine ⟨_, rfl, ?_⟩
    split
    · exact h
    · exact State.taking_sound t (fun v hv => State.settle_sound ((State.cardRead_orders t item es _ v).symm ▸ hv)) h
  | _ => exact ⟨_, rfl, by simp -implicitDefEqProofs [h]⟩

/-- What the part does with no command waiting keeps the relations of R3. -/
theorem idleStep_sound (h : OrdersSound s.orders) : ∃ v, idleStep s = .next v ∧ OrdersSound v.orders := by
  unfold idleStep
  split
  · exact ⟨_, rfl, State.settle_sound h⟩
  · split
    · rename_i a _
      exact ⟨_, rfl, State.perform_sound (s := s.modExch fun x => { x with handed := x.handed.tail }) a h⟩
    · split
      · exact exec_sound _ h
      · exact ⟨_, rfl, by simp -implicitDefEqProofs [h]⟩

/-- Every step keeps the relations of R3. -/
theorem step_sound (h : OrdersSound s.orders) : ∃ v, step s = .next v ∧ OrdersSound v.orders := by
  unfold step
  split
  · rename_i c rest _
    exact exec_sound (s := { s with pending := rest }) c h
  · exact idleStep_sound h

end

/-- Settles O59: each change of an item's counts keeps their relations (R3), and every other change of the order table leaves the counts. -/
theorem itemCountsStayConsistent : Obligations.ItemCountsStayConsistent := by
  intro s u h hu
  obtain ⟨v, hv, hs⟩ := step_sound ((State.obeysR3_iff s).mp h)
  cases hv.symm.trans hu
  exact (State.obeysR3_iff _).mpr hs

end Sys2Proof.Machine
end

section
/-! SUPPORT. A command whose step is made at once: the next state, but for the exchange controller's own course, from what the step's request does. -/

namespace Sys2Proof.Machine

/-! ## Steps that make no request of another block -/

/-- A calm part makes at once a step that makes no request and finds its places. -/
theorem State.perform_still {a : Act} {places : Nat} {s v : State} (hc : s.calm places) (he : applyAct a s = v) (hq : v.quiet)
    (hr : v.occupied ≤ s.occupied + places) : (s.perform a).still = v.still := by
  subst he
  exact (State.perform_plain a s places hc hq.1 hq.2 hr).still

/-- As `perform_still`, for the step of a ticket that the part takes. -/
theorem State.taking_perform_still {t : Ticket} {a : Act} {places : Nat} {s v : State} (hc : s.calm places) (ht : s.takes t)
    (he : applyAct a (s.accept t) = v) (hq : v.quiet) (hr : v.occupied ≤ (s.accept t).occupied + places) :
    (s.taking t (State.perform a)).still = v.still := by
  rw [State.taking_of_takes ht]
  exact State.perform_still (State.accept_calm t hc) he hq hr

/-- A ticket that the part takes is not left. -/
theorem State.leavesTicket_of_takes {s : State} {t : Ticket} (h : s.takes t) : s.leavesTicket t = false := by
  rcases h with h | ⟨hp, hf⟩
  · simp [State.leavesTicket, h]
  · simp [State.leavesTicket, hp, hf]

/-- A ticket that the part does not take is left. -/
theorem State.leavesTicket_of_not_takes {s : State} {t : Ticket} (h : ¬ s.takes t) : s.leavesTicket t = true := by
  simp only [State.takes, not_or, not_and, not_not, Bool.not_eq_true] at h
  obtain ⟨hh, hf⟩ := h
  by_cases hp : s.exch.part = .running
  · simp [State.leavesTicket, hh, hf hp]
  · simp [State.leavesTicket, hh, hp]

end Sys2Proof.Machine
end

section
/-! SUPPORT. The order table's tickets that open, fill and quote an order (R7 to R9, R33 to R35). O13, O15, O16 and O17. -/

namespace Sys2Proof.Machine

/-! ## Opening and adding items -/

/-- Settles O13: a sound ORDER_OPEN passes the three refusals of R7, and its record joins the table. -/
theorem orderOpened : Obligations.OrderOpened := by
  intro t station cls profile finish s hc ht hs hk hp hf hn hfree hroom
  have hfind : (s.acceptOpen t).findOrder t.order = none := by simpa [State.findOrder] using hfree
  have hplace : ¬ Config.orderRecords ≤ s.orders.length := Nat.not_le.mpr hroom
  refine ⟨_, rfl, ?_⟩
  rw [if_neg (by simp [State.leavesTicket_of_takes ht])]
  refine State.perform_still (State.acceptOpen_calm t hc) ?_ (State.acceptOpen_calm t hc).1 (by simp [State.occupied]; omega)
  simp [applyAct, State.openOrder, hfind, hplace, hn, hs, hk, hp, hf, Nat.not_lt.mpr, kindOrderOpen]

/-- A sound description is none that R8 refuses. -/
theorem ItemDesc.bad_eq_false {d : ItemDesc}
    (h : d.product ≤ 31 ∧ d.copies ≠ 0 ∧ d.preStaged ≤ 1 ∧ d.address + 9216000 ≤ 18446744073709551616) : ItemDesc.bad d = false := by
  obtain ⟨hp, hk, hs, ha⟩ := h
  simp [ItemDesc.bad, hp, hk, hs, Nat.not_lt.mpr (show _ ≤ Config.addressLimit from ha), Config.pictureBytes]

/-- The item that a description enters. -/
theorem ItemDesc.item_eq :
    ItemDesc.item = fun d =>
      { product := d.product, address := d.address, copies := min d.copies 99, staging := if d.preStaged = 1 then .staged else .unstaged } := by
  funext d
  simp [ItemDesc.item, Config.maxCopies]

/-- Settles O15: an OPEN order with room, and sound descriptions, pass the refusals of R8. -/
theorem itemsAdded : Obligations.ItemsAdded := by
  intro t items o s hc ht ho hopen hne hlen hroom hsound
  obtain ⟨a, ha⟩ := State.accept_findOrder t ho
  have hbad : items.findIdx? ItemDesc.bad = none := List.findIdx?_eq_none_iff.mpr fun d hd => ItemDesc.bad_eq_false (hsound d hd)
  have hlen' : ¬ 8 < items.length := Nat.not_lt.mpr hlen
  have hroom' : ¬ Config.maxItems < o.items.length + items.length := Nat.not_lt.mpr hroom
  refine ⟨_, rfl, State.taking_perform_still hc ht ?_ (State.accept_calm t hc).1 (by simp)⟩
  simp [applyAct, applyCmd, State.addItems, ha, hopen, hne, hlen', hroom', hbad, ItemDesc.item_eq]
  rfl

/-! ## Changes of an order's state -/

/-- A change of a live order's state, out of a state other than FUNDING, that asks nothing of other blocks (R6). -/
theorem State.orderTo_eq {n seq : Nat} {new : OrderState} {cause : OrderCause} {o : Order} {s : State} (ho : s.findOrder n = some o)
    (hf : o.state ≠ .funding) (hacts : entryActs n o.state new seq = []) :
    s.orderTo n new cause seq =
      (let v := s.modOrder n fun o =>
        { o with
          state := new
          lastActivity := if new.restartsTimer then s.clock else o.lastActivity
          awaitingEngine := o.awaitingEngine && new.keepsAwaiting }
      (if new.keepsAwaiting then v else v.dropAwaiting n).emit (.orderState (cause == .abandon) (some o.state) new cause) 0 n seq) := by
  simp [State.orderTo, ho, hf, hacts, State.pushAll]

/-- ORDER_QUOTE of an OPEN order with items, refused (R33, R35). -/
theorem State.quoteOrder_refused {t : Ticket} {o : Order} {code : ResultCode} {k : Nat} {s : State} (ho : s.findOrder t.order = some o)
    (hopen : o.state = .opened) (hne : o.items ≠ []) (hq : quoteOf s.products s.settings.taxRate o.items = .refused code k) :
    s.quoteOrder t = s.endTicket t 3 code k := by
  simp [State.quoteOrder, ho, hopen, hne, hq, kindOrderQuote]

/-- ORDER_QUOTE of an OPEN order with items, answered with a quote above 0 (R9, R29). -/
theorem State.quoteOrder_priced {t : Ticket} {o : Order} {us : List Nat} {subtotal rate quote : Nat} {s : State}
    (ho : s.findOrder t.order = some o) (hopen : o.state = .opened) (hne : o.items ≠ [])
    (hq : quoteOf s.products s.settings.taxRate o.items = .priced us subtotal rate quote) (hq0 : quote ≠ 0) :
    s.quoteOrder t =
      (((({ s with useCounts := raiseUses s.useCounts o.productsUsed } : State).modOrder t.order fun o =>
        { o with
          items := priceItems o.items us, subtotal := some subtotal, taxRate := some rate, quote := some quote
          state := .quoted, lastActivity := s.clock, awaitingEngine := false }).dropAwaiting t.order).emit
        (.orderState false (some .opened) .quoted .ticket) 0 t.order t.seq |>.endTicket t 3 .ok quote) := by
  let v : State := { s with useCounts := raiseUses s.useCounts o.productsUsed }
  have hv : v.findOrder t.order = some o := ho
  let f (o : Order) : Order := { o with items := priceItems o.items us, subtotal := some subtotal, taxRate := some rate, quote := some quote }
  have hw : (v.modOrder t.order f).findOrder t.order = some (f o) := State.findOrder_modOrder_self f (fun _ => rfl) hv
  have hstate : (f o).state = .opened := hopen
  have hto := State.orderTo_eq (new := .quoted) (cause := .ticket) (seq := t.seq) hw (by simp [hstate]) (by simp [entryActs, hstate])
  rw [State.modOrder_modOrder v t.order f _ fun _ => rfl] at hto
  simp only [State.quoteOrder, ho, hopen, hq]
  simp [hne, hq0, v, f, kindOrderQuote] at hto ⊢
  rw [hto]
  simp [OrderState.keepsAwaiting, OrderState.restartsTimer, hopen]
  rfl

@[simp] theorem Order.productsUsed_lastActivity (o : Order) (a : Nat) : { o with lastActivity := a }.productsUsed = o.productsUsed := rfl

/-- Settles O16: the quote is the order table's own step, with no request of another block. -/
theorem orderQuoted : Obligations.OrderQuoted := by
  intro t o us subtotal rate quote s hc ht ho hopen hne hq hq0
  obtain ⟨a, ha⟩ := State.accept_findOrder t ho
  have hstep := State.quoteOrder_priced ha hopen hne (by simpa [State.settings] using hq) hq0
  exact ⟨_, rfl, State.taking_perform_still hc ht (by simpa [applyAct, applyCmd] using hstep) (State.accept_calm t hc).1
    (by simp [State.occupied]; omega)⟩

/-! ## The figures of a quote -/

/-- With every product valid no item is refused (R33). -/
theorem firstInvalid_none {products : List Product} {items : List Item}
    (h : ∀ i ∈ items, (products.getD i.product {}).valid = true) (m : Nat) : firstInvalid products m items = none := by
  induction items generalizing m with
  | nil => rfl
  | cons i l ih =>
    rw [List.forall_mem_cons] at h
    simp only [firstInvalid, h.1, if_true]
    exact ih h.2 (m + 1)

/-- The first item whose product is not valid is the one refused (R33). -/
theorem firstInvalid_some {products : List Product} {items : List Item} {k : Nat}
    (hk : ∃ i, items[k]? = some i ∧ (products.getD i.product {}).valid = false)
    (hb : ∀ j < k, ∀ i, items[j]? = some i → (products.getD i.product {}).valid = true) (m : Nat) :
    firstInvalid products m items = some (m + k) := by
  induction items generalizing m k with
  | nil => obtain ⟨i, hi, -⟩ := hk; simp at hi
  | cons x l ih =>
    cases k with
    | zero =>
      obtain ⟨i, hi, hv⟩ := hk
      obtain rfl : x = i := by simpa using hi
      simp only [firstInvalid, hv]
      rfl
    | succ k =>
      have hx := hb 0 (Nat.succ_pos k) x rfl
      simp only [firstInvalid, hx, if_true]
      rw [ih (by simpa using hk) (fun j hj i hi => hb (j + 1) (Nat.succ_lt_succ hj) i (by simpa using hi)) (m + 1)]
      congr 1; omega

/-- The subtotal at a unit price for each item (R34). -/
theorem subtotalOf_map (price : Item → Nat) (items : List Item) :
    subtotalOf items (items.map price) = (items.map fun i => i.copies * price i).sum := by
  induction items with
  | nil => rfl
  | cons i l ih => simp [subtotalOf, ih]

/-- A quote answered gives the unit unit prices at the rate asked for. -/
theorem quoteOf_priced {products : List Product} {r rate subtotal quote : Nat} {items : List Item} {us : List Nat}
    (h : quoteOf products r items = .priced us subtotal rate quote) : us = unitPrices products items ∧ rate = r := by
  simp only [quoteOf] at h
  split at h
  · cases h
  · split_ifs at h
    cases h
    exact ⟨rfl, rfl⟩

/-- The prices entered in the items are those given. -/
theorem map_unitPrice_priceItems {items : List Item} {us : List Nat} (h : us.length = items.length) :
    (priceItems items us).map Item.unitPrice = us.map some := by
  induction items generalizing us with
  | nil => simp [List.length_eq_zero_iff.mp h, priceItems]
  | cons i l ih =>
    cases us with
    | nil => cases h
    | cons u us => simp [priceItems, ih (Nat.succ.inj h)]

/-- States with one still part have one order table. -/
theorem State.orders_of_still {s t : State} (h : s.still = t.still) : s.orders = t.orders :=
  show s.still.orders = t.still.orders by rw [h]

@[simp] theorem State.useCounts_findOrder (s : State) (c : List Nat) (n : Nat) :
    ({ s with useCounts := c } : State).findOrder n = s.findOrder n := rfl

/-- Settles O17: the figures by induction over the items, and ORDER_QUOTE by what it does with the answer. -/
theorem quoteFigures : Obligations.QuoteFigures := by
  refine ⟨fun products rate items => ⟨fun k hk hb => ?_, fun hv => ?_⟩, fun t o s hc ht ho hopen hne => ⟨fun code k hq => ?_, ?_⟩⟩
  · simp [quoteOf, firstInvalid_some hk hb]
  · simp only [quoteOf, firstInvalid_none hv, unitPrices, subtotalOf_map]
    rfl
  · obtain ⟨a, ha⟩ := State.accept_findOrder t ho
    have hstep := State.quoteOrder_refused ha hopen hne (by simpa [State.settings] using hq)
    exact ⟨_, rfl, State.taking_perform_still hc ht hstep (State.accept_calm t hc).1 (by simp)⟩
  · intro us subtotal rate quote hq hq0
    obtain ⟨u, hu, hs⟩ := orderQuoted t o us subtotal rate quote s hc ht ho hopen hne hq hq0
    obtain ⟨hus, hrate⟩ := quoteOf_priced hq
    refine ⟨u, hu, hrate, congrArg State.useCounts hs, ?_⟩
    obtain ⟨a, ha⟩ := State.accept_findOrder t ho
    rw [State.findOrder_congr (State.orders_of_still hs)]
    simp only [State.endTicket_findOrder, State.emit_findOrder, State.dropAwaiting_findOrder]
    have hlen : us.length = o.items.length := by simp [hus, unitPrices]
    rw [State.findOrder_modOrder, State.useCounts_findOrder, ha]
    · simp [map_unitPrice_priceItems hlen, State.findOrder_number ho]
    · exact fun _ => rfl

end Sys2Proof.Machine
end

section
/-! SUPPORT. Tickets for an order that is not live, and tickets that the part does not take (R1, R153, R173). O14. -/

namespace Sys2Proof.Machine

/-! ## No live order -/

section
variable {s : State} {t : Ticket}

theorem State.addItems_noOrder (h : s.findOrder t.order = none) (items : List ItemDesc) :
    s.addItems t items = s.endTicket t kindOrderAddItems .noOrder 0 := by simp [State.addItems, h]
theorem State.quoteOrder_noOrder (h : s.findOrder t.order = none) : s.quoteOrder t = s.endTicket t kindOrderQuote .noOrder 0 := by
  simp [State.quoteOrder, h]
theorem State.cancelTicket_noOrder (h : s.findOrder t.order = none) : s.cancelTicket t = s.endTicket t kindOrderCancel .noOrder 0 := by
  simp [State.cancelTicket, h]
theorem State.dropItem_noOrder (h : s.findOrder t.order = none) (item : Nat) :
    s.dropItem t item = s.endTicket t kindOrderDropItem .noOrder 0 := by simp [State.dropItem, h]
theorem State.resolveOrder_noOrder (h : s.findOrder t.order = none) (answer reference amount : Nat) :
    s.resolveOrder t answer reference amount = s.endTicket t kindOrderResolve .noOrder 0 := by simp [State.resolveOrder, h]
theorem State.payCard_noOrder (h : s.findOrder t.order = none) : s.payCard t = s.endTicket t kindPayCard .noOrder 0 := by
  simp [State.payCard, h]
theorem State.checkBind_noOrder (h : s.findOrder t.order = none) : s.checkBind t = s.endTicket t kindPayCashBind .noOrder 0 := by
  simp [State.checkBind, h]
theorem State.payCashUnbind_noOrder (h : s.findOrder t.order = none) :
    s.payCashUnbind t = s.endTicket t kindPayCashUnbind .noOrder 0 := by simp [State.payCashUnbind, h]
theorem State.forLiveOrder_noOrder (h : s.findOrder t.order = none) (hz : t.order ≠ 0) (kind : Nat) (f : State → State) :
    s.forLiveOrder t kind f = s.endTicket t kind .noOrder 0 := by simp [State.forLiveOrder, h, hz]

/-- With its list empty and no BOUND event the acceptor checks a PAY_CASH_BIND at its take (R161). -/
theorem State.payCashBind_at_once (h : s.cash.list = []) : s.payCashBind t = s.perform (.cmd (.payCashBind t)) := by
  simp [State.payCashBind, Cash.bindListed, h]

/-- A ticket that the part takes, refused by a step of its own block. -/
theorem State.taking_refused {kind : Nat} {a : Act} (hc : s.calm 0) (ht : s.takes t)
    (he : applyAct a (s.accept t) = (s.accept t).endTicket t kind .noOrder 0) :
    (s.taking t (State.perform a)).still = ((s.accept t).endTicket t kind .noOrder 0).still :=
  State.taking_perform_still hc ht he (State.accept_calm t hc).1 (by simp)

/-- A ticket that the part takes, refused before a step that follows at once. -/
theorem State.taking_settle_refused {kind : Nat} {f : State → State} (hc : s.calm 0) (ht : s.takes t) (h : s.findOrder t.order = none)
    (hz : t.order ≠ 0) :
    (s.taking t fun v => (v.forLiveOrder t kind f).settle).still = ((s.accept t).endTicket t kind .noOrder 0).still := by
  rw [State.taking_of_takes ht, State.forLiveOrder_noOrder (State.accept_findOrder_none t h) hz]
  exact (State.settle_follows ((s.accept t).endTicket t kind .noOrder 0) (State.accept_calm t hc).1).still

end

/-- Settles O14: of every kind the first test is for the live record, and a ticket that is not taken never reaches it. -/
theorem noLiveOrderRefused : Obligations.NoLiveOrderRefused := by
  constructor
  · intro t c kind s hc ht hk ho hz hl
    have hn := State.accept_findOrder_none t ho
    cases c with
    | orderAddItems t items => cases hk; exact ⟨_, rfl, State.taking_refused hc ht (State.addItems_noOrder hn items)⟩
    | orderQuote t => cases hk; exact ⟨_, rfl, State.taking_refused hc ht (State.quoteOrder_noOrder hn)⟩
    | orderCancel t => cases hk; exact ⟨_, rfl, State.taking_refused hc ht (State.cancelTicket_noOrder hn)⟩
    | orderDropItem t item => cases hk; exact ⟨_, rfl, State.taking_refused hc ht (State.dropItem_noOrder hn item)⟩
    | orderResolve t a r k => cases hk; exact ⟨_, rfl, State.taking_refused hc ht (State.resolveOrder_noOrder hn a r k)⟩
    | payCard t => cases hk; exact ⟨_, rfl, State.taking_refused hc ht (State.payCard_noOrder hn)⟩
    | payCashUnbind t => cases hk; exact ⟨_, rfl, State.taking_refused hc ht (State.payCashUnbind_noOrder hn)⟩
    | payCashBind t =>
      cases hk
      refine ⟨_, rfl, ?_⟩
      have hbind := State.taking_refused hc ht (a := .cmd (.payCashBind t)) (State.checkBind_noOrder hn)
      rw [State.taking_of_takes ht] at hbind ⊢
      rwa [State.payCashBind_at_once (by simpa using hl rfl)]
    | loadPrices | loadTone | refreshSettings | readCounters =>
      cases hk
      exact ⟨_, rfl, State.taking_settle_refused hc ht ho (hz (by decide))⟩
    | engineControlEvacuate | engineControlPause | engineControlResume | engineControlReset | mediaSet | engineProof
    | linkTestLoopOn | linkTestLoopOff | linkTestSend | linkTestInsertError =>
      cases hk
      exact ⟨_, rfl, State.taking_refused hc ht (State.forLiveOrder_noOrder hn (hz (by decide)) _ _)⟩
    | _ => cases hk
  · intro t c s hk ht
    cases c with
    | orderOpen =>
      cases hk
      exact congrArg Host.Outcome.next (if_pos (State.leavesTicket_of_not_takes ht))
    | cardRead =>
      cases hk
      refine congrArg Host.Outcome.next ?_
      rw [State.taking_of_not_takes ht, ite_self]
    | _ =>
      cases hk <;> exact congrArg Host.Outcome.next (State.taking_of_not_takes ht _)

end Sys2Proof.Machine
end

section
/-! SUPPORT. How a record is made free (R19, R20, R23, R66), and the tickets that drop, cancel and resolve (R14, R18, R26). O19, O20 and O21. -/

namespace Sys2Proof.Machine

/-! ## Timers whose moment has been reached -/

/-- An expiry at its moment or after it does not move the clock. -/
theorem State.advance_reached {s : State} {t : Nat} (h : reached s.clock t = true) : s.advance (some t) = s := by
  simp [State.advance, State.advanceTo, h]

/-! ## A slot with no read of an order (R46, R65, R66) -/

/-- The read in flight and those that wait are the queue, in its order. -/
theorem Slot.inFlight_queued (x : Slot) : x.inFlight.toList ++ x.queued = x.queue := by
  unfold Slot.inFlight Slot.queued
  split
  · cases x.queue <;> rfl
  · rfl

theorem Slot.mem_queue_of_inFlight {x : Slot} {r : ReadEntry} (h : x.inFlight = some r) : r ∈ x.queue := by
  rw [← x.inFlight_queued, h]
  simp

theorem Slot.mem_queue_of_queued {x : Slot} {r : ReadEntry} (h : r ∈ x.queued) : r ∈ x.queue := by
  rw [← x.inFlight_queued]
  exact List.mem_append_right _ h

/-- A cancel leaves a slot that holds no read of the order. -/
theorem State.cancelReadsAt_none {s : State} {n : Nat} {k : Fin 4} (h : ∀ r ∈ (s.slots.get k).queue, r.order ≠ n) :
    s.cancelReadsAt n k = s := by
  have hq : ∀ r ∈ (s.slots.get k).queued, r.order ≠ n := fun r hr => h r (Slot.mem_queue_of_queued hr)
  have hgone : (s.slots.get k).queued.filter (fun r => r.order == n) = [] := by simpa [List.filter_eq_nil_iff] using hq
  have hleft : (s.slots.get k).queued.filter (fun r => r.order != n) = (s.slots.get k).queued := by
    simpa [List.filter_eq_self] using hq
  simp only [State.cancelReadsAt, hgone, hleft, State.endReads]
  have hq' := (s.slots.get k).inFlight_queued
  cases hf : (s.slots.get k).inFlight with
  | none =>
    rw [hf] at hq'
    simp only [Option.toList_none] at hq'
    rw [hq']
    exact congrArg (fun m => { s with slots := m }) (s.slots.set_get k)
  | some r =>
    have hr : (r.order == n) = false := by simp [h r (Slot.mem_queue_of_inFlight hf)]
    rw [hf] at hq'
    simp only [Option.toList_some] at hq'
    simp only [hr, Bool.false_and, Bool.false_eq_true, if_false, hq']
    exact congrArg (fun m => { s with slots := m }) (s.slots.set_get k)

theorem State.cancelReads_none {s : State} {n : Nat} (h : ∀ k, ∀ r ∈ (s.slots.get k).queue, r.order ≠ n) : s.cancelReads n = s := by
  simp [State.cancelReads, slotNumbers, State.cancelReadsAt_none (h _)]

/-- A read of another order goes on as it is when a record is made free. -/
theorem Slot.orphan_none {x : Slot} {n : Nat} (h : ∀ r ∈ x.queue, r.order ≠ n) : x.orphan n = x := by
  have hid : x.queue.map (ReadEntry.orphan n) = x.queue := by
    conv_rhs => rw [← List.map_id x.queue]
    exact List.map_congr_left fun r hr => by simp [ReadEntry.orphan, h r hr]
  simp [Slot.orphan, hid]

theorem State.orphanReads_none {s : State} {n : Nat} (h : ∀ k, ∀ r ∈ (s.slots.get k).queue, r.order ≠ n) : s.orphanReads n = s := by
  simp only [State.orphanReads, Slot.orphan_none (x := s.slots.zero) (h 0), Slot.orphan_none (x := s.slots.one) (h 1),
    Slot.orphan_none (x := s.slots.two) (h 2), Slot.orphan_none (x := s.slots.three) (h 3)]

theorem State.readInFlight_none {s : State} {n : Nat} (h : ∀ k, ∀ r ∈ (s.slots.get k).queue, r.order ≠ n) : s.readInFlight n = false := by
  simp only [State.readInFlight, List.any_eq_false]
  intro k _
  cases hf : (s.slots.get k).inFlight with
  | none => simp
  | some r => simpa using h k r (Slot.mem_queue_of_inFlight hf)

/-! ## A record made free (R23) -/

/-- What is left of the order table without one number is not touched by a change of the record of that number. -/
theorem State.filter_orders_modOrder (n : Nat) (f : Order → Order) (s : State) (hf : ∀ o, (f o).number = o.number) :
    (s.modOrder n f).orders.filter (fun x => x.number != n) = s.orders.filter fun x => x.number != n := by
  simp only [State.modOrder]
  induction s.orders with
  | nil => rfl
  | cons o l ih =>
    by_cases ho : o.number = n
    · simpa [ho, hf o] using ih
    · simpa [ho] using ih

theorem State.accept_orders_filter (s : State) (t : Ticket) :
    (s.accept t).orders.filter (fun x => x.number != t.order) = s.orders.filter fun x => x.number != t.order := by
  rcases State.accept_orders t s with h | h
  · rw [h]
  · rw [h]
    exact State.filter_orders_modOrder t.order (fun o => { o with lastActivity := s.clock }) s fun _ => rfl

/-- ORDER CLOSED and the record made free (R23). -/
theorem State.closeNow_live {n seq : Nat} {o : Order} {s : State} (h : s.findOrder n = some o) :
    s.closeNow n seq =
      (({ s with
          orders := s.orders.filter fun x => x.number != n
          useCounts := if o.quote.isSome then lowerUses s.useCounts o.productsUsed else s.useCounts
          awaiting := s.awaiting.filter (· != n) } : State).orphanReads n).emit
        (.orderClosed o.closeReason (o.charge.getD 0) (o.captured.getD 0) (o.surplus.getD 0) (o.shortfall.getD 0)
          (o.items.map Item.spoiled).sum) 0 n seq := by
  simp only [State.closeNow, h, State.freeOrder, State.findOrder_number h]
  rfl

/-- The reason with which a record closes after a cancel (R6). -/
def CancelCause.reason : CancelCause → CloseReason
  | .cancel => .cancelled
  | .abandon => .abandoned

/-- A cancel or an abandon expiry that makes the record free at once (R19). -/
theorem State.cancelOrder_freed {n seq : Nat} {cause : CancelCause} {o : Order} {s : State} (h : s.findOrder n = some o)
    (hstate : o.state = .opened ∨ o.state = .quoted) (hcash : o.cash = 0) (hbound : o.cashBound = false)
    (hreads : ∀ k, ∀ r ∈ (s.slots.get k).queue, r.order ≠ n) :
    s.cancelOrder o cause seq =
      ({ s with
          orders := s.orders.filter fun x => x.number != n
          useCounts := if o.quote.isSome then lowerUses s.useCounts o.productsUsed else s.useCounts
          awaiting := s.awaiting.filter (· != n) } : State).emit
        (.orderClosed cause.reason (o.charge.getD 0) (o.captured.getD 0) (o.surplus.getD 0) (o.shortfall.getD 0)
          (o.items.map Item.spoiled).sum) 0 n seq := by
  obtain rfl := State.findOrder_number h
  have hfree : s.freedByCancel o = true := by
    rcases hstate with hs | hs <;> simp [State.freedByCancel, hs, hcash, hbound, State.readInFlight_none hreads]
  let v := (s.modOrder o.number fun o => o.cancelled cause).dropAwaiting o.number
  have hv : v.cancelReads o.number = v := State.cancelReads_none hreads
  have hfind : v.findOrder o.number = some (o.cancelled cause) :=
    State.findOrder_modOrder_self (fun o => o.cancelled cause) (fun _ => rfl) h
  have horders : v.orders.filter (fun x => x.number != o.number) = s.orders.filter fun x => x.number != o.number :=
    State.filter_orders_modOrder o.number _ s fun _ => rfl
  have hused : (o.cancelled cause).productsUsed = o.productsUsed := by
    simp [Order.productsUsed, Order.cancelled, Function.comp_def, Item.withdrawOpen]
  have hspoiled : ((o.cancelled cause).items.map Item.spoiled).sum = (o.items.map Item.spoiled).sum := by
    simp [Order.cancelled, Function.comp_def, Item.withdrawOpen]
  have hreason : (o.cancelled cause).closeReason = cause.reason := by cases cause <;> rfl
  simp only [State.cancelOrder, hfree, if_true]
  change (v.cancelReads o.number).closeNow o.number seq = _
  rw [hv, State.closeNow_live hfind, hspoiled, hreason, hused, horders, State.orphanReads_none]
  · simp [v, State.dropAwaiting, State.modOrder, Order.cancelled]
  · exact hreads

/-- Settles O19: the ticket and the expiry reach the one cancel that makes the record free. -/
theorem unpaidOrderClosed : Obligations.UnpaidOrderClosed := by
  intro n o s hc ho hcash hbound hreads
  constructor
  · intro t ht hn hstate
    subst hn
    obtain ⟨a, ha⟩ := State.accept_findOrder t ho
    have hreads' : ∀ k, ∀ r ∈ ((s.accept t).slots.get k).queue, r.order ≠ t.order := by simpa using hreads
    have hstep := State.cancelOrder_freed (cause := .cancel) (seq := t.seq) ha hstate hcash hbound hreads'
    refine ⟨_, rfl, State.taking_perform_still hc ht ?_ (State.accept_calm t hc).1 (by simp [State.occupied]; omega)⟩
    have htick : (s.accept t).cancelTicket t =
        ((s.accept t).cancelOrder { o with lastActivity := a } .cancel t.seq).endTicket t kindOrderCancel .ok 0 := by
      rcases hstate with hs | hs <;> simp only [State.cancelTicket, ha, hs]
    change (s.accept t).cancelTicket t = _
    rw [htick, hstep, State.accept_orders_filter, State.accept_useCounts, State.accept_awaiting]
    rfl
  · intro hstate hon hreach
    have hdue : s.abandonAt o = some (o.lastActivity + 1000 * s.exch.settings.abandon) := by
      simp [State.abandonAt, hstate, hon, State.settings]
    have hstep := State.cancelOrder_freed (cause := .abandon) (seq := 0) ho (.inr hstate) hcash hbound hreads
    refine ⟨_, rfl, ?_⟩
    simp only [State.abandonOf, ho, hdue]
    rw [State.advance_reached hreach]
    refine State.perform_still hc ?_ hc.1 (by simp [State.occupied]; omega)
    simp [applyAct, applyCmd, State.abandonExpiry, ho, hdue, hreach, hstep]
    rfl

/-! ## An item dropped (R18) -/

/-- An order that is neither FUNDED nor PRODUCING is not settled by the accounted test (R16). -/
theorem State.accountedTest_idle {n seq : Nat} {o : Order} {s : State} (h : s.findOrder n = some o) (hf : o.state ≠ .funded)
    (hp : o.state ≠ .producing) : s.accountedTest n seq = s := by
  simp [State.accountedTest, h, hf, hp]

/-- Settles O20: in these states the accounted test after the change moves nothing. -/
theorem itemDropped : Obligations.ItemDropped := by
  intro t item o i s hc ht ho hstate hi
  obtain ⟨a, ha⟩ := State.accept_findOrder t ho
  have hallows : o.state.allowsDrop = true := by rcases hstate with hs | hs | hs <;> rw [hs] <;> rfl
  have hmod := State.findOrder_modOrder_self (fun o => o.modItem item Item.withdrawOpen) (fun _ => rfl) ha
  have htest := State.accountedTest_idle (seq := t.seq) hmod
    (by rcases hstate with hs | hs | hs <;> simp [Order.modItem, hs]) (by rcases hstate with hs | hs | hs <;> simp [Order.modItem, hs])
  refine ⟨_, rfl, State.taking_perform_still hc ht ?_ (State.accept_calm t hc).1 (by simp)⟩
  simp only [applyAct, applyCmd, State.dropItem, ha, hallows, hi, htest]
  rfl

/-! ## A CAPTURE resolved (R26) -/

/-- The CAPTURE was made: its amount is captured, what it leaves of the card part is the shortfall, and the record is free (R26). -/
theorem State.applyReconciled_captureDone {n amount seq : Nat} {cause : OrderCause} {o w : Order} {r : UnresolvedRequest} {s : State}
    (h : s.findOrder n = some o) :
    s.applyReconciled n w r (.captureDone amount) cause seq =
      (({ s with
          orders := s.orders.filter fun x => x.number != n
          useCounts := if o.quote.isSome then lowerUses s.useCounts o.productsUsed else s.useCounts
          awaiting := s.awaiting.filter (· != n) } : State).orphanReads n).emit
        (.orderClosed o.closeReason (o.charge.getD 0) amount (o.surplus.getD 0) (r.cardPart - amount)
          (o.items.map Item.spoiled).sum) 0 n seq := by
  let f (x : Order) : Order := { x with unresolved := none, captured := some amount, shortfall := some (r.cardPart - amount) }
  have hmod : (s.modOrder n fun x => { x with unresolved := none }).modOrder n
      (fun x => { x with captured := some amount, shortfall := some (r.cardPart - amount) }) = s.modOrder n f :=
    State.modOrder_modOrder s n _ _ fun _ => rfl
  have hfind : (s.modOrder n f).findOrder n = some (f o) := State.findOrder_modOrder_self f (fun _ => rfl) h
  have horders : (s.modOrder n f).orders.filter (fun x => x.number != n) = s.orders.filter fun x => x.number != n :=
    State.filter_orders_modOrder n f s fun _ => rfl
  simp only [State.applyReconciled]
  rw [hmod, State.closeNow_live hfind, horders]
  rfl

/-- ORDER_RESOLVE with CAPTURE_DONE passes its tests, and its ticket ends OK (R26). -/
theorem State.resolveOrder_captureDone {t : Ticket} {reference amount : Nat} {o : Order} {r : UnresolvedRequest} {s : State}
    (h : s.findOrder t.order = some o) (hstate : o.state = .unresolved) (hun : o.unresolved = some r) (hkind : r.kind = .capture)
    (hamount : amount ≤ r.amount) :
    s.resolveOrder t 3 reference amount =
      ((if r.reserved then s.unreserve r.seq else s).endTicket t 6 .ok 0).applyReconciled t.order o r (.captureDone amount) .ticket
        t.seq := by
  have hrec : reconciledOf 3 reference amount = some (.captureDone amount) := rfl
  have hsuits : (Reconciled.captureDone amount).suits r = true := by simp [Reconciled.suits, hkind, hamount]
  simp only [State.resolveOrder, h, hstate, hun, hrec, hsuits]
  rfl

/-- Settles O21: the ticket's answer closes the order, on the state in which the sequence is reserved no more. -/
theorem captureResolved : Obligations.CaptureResolved := by
  intro t reference amount o r s hc ht ho hstate hun hkind hamount
  obtain ⟨a, ha⟩ := State.accept_findOrder t ho
  have hres := State.resolveOrder_captureDone (reference := reference) ha hstate hun hkind hamount
  have hfind : ((if r.reserved then (s.accept t).unreserve r.seq else s.accept t).endTicket t 6 .ok 0).findOrder t.order =
      some { o with lastActivity := a } := by
    split <;> exact ha
  refine ⟨_, rfl, State.taking_perform_still hc ht ?_ (State.accept_calm t hc).1 ?_⟩
  · change (s.accept t).resolveOrder t 3 reference amount = _
    rw [hres, State.applyReconciled_captureDone hfind]
    rw [← State.accept_tender t s, ← State.accept_useCounts t s, ← State.accept_awaiting t s, ← State.accept_orders_filter s t]
    cases r.reserved <;> rfl
  · rw [State.emit_occupied, State.endTicket_occupied]
    exact Nat.le_refl _

end Sys2Proof.Machine
end

section
/-! SUPPORT. Steps of the tender link and the cash acceptor that no other block takes up (R11, R13, R148 to R150, R161, R165, R166, R200 to R202).
O47, O49, O52 and O54. -/

namespace Sys2Proof.Machine

/-! ## A request that becomes unresolved (R24, R150) -/

/-- A request of a SETTLING order becomes unresolved, and so does the order (R24). -/
theorem State.orderUnresolved_settling {n seq : Nat} {reserved : Bool} {w : Order} {r : OrderRequest} {s : State}
    (hw : s.findOrder n = some w) (hs : w.state = .settling) (hr : w.request = some r) (hseq : r.seq = some seq) :
    s.orderUnresolved n seq none reserved =
      (s.modOrder n fun w =>
        { w with
          request := none
          unresolved := some { kind := r.kind, amount := r.amount, seq := seq, cardPart := r.cardPart, prior := w.state, reserved := reserved }
          state := .unresolved }).emit (.orderState false (some .settling) .unresolved .tender) 0 n 0 := by
  let f (w : Order) : Order :=
    { w with
      request := none
      unresolved := some { kind := r.kind, amount := r.amount, seq := seq, cardPart := r.cardPart, prior := w.state, reserved := reserved } }
  have hfind : (s.modOrder n f).findOrder n = some (f w) := State.findOrder_modOrder_self f (fun _ => rfl) hw
  have hstate : (f w).state = .settling := hs
  have hawaits : s.awaitsSeq n seq = some w := by simp [State.awaitsSeq, hw, hr, hseq]
  have hto := State.orderTo_eq (new := .unresolved) (cause := .tender) (seq := 0) hfind (by simp [hstate]) (by simp [entryActs, hstate])
  rw [State.modOrder_modOrder s n f _ fun _ => rfl, hstate] at hto
  simp only [State.orderUnresolved, State.endPay, hawaits, hr]
  refine hto.trans ?_
  simp [OrderState.keepsAwaiting, OrderState.restartsTimer, f]
  rfl

/-- Settles O47: the step is that of the link controller, and then that of a SETTLING order. -/
theorem captureUnresolved : Obligations.CaptureUnresolved := by
  intro o w r t s hc ho hphase hexp hreach hkind hticket hw hs hr hseq
  have hdue : s.queryAt = some t := by simp [State.queryAt, ho, hphase, hexp]
  let v := ((s.modTender fun x => { x with outstanding := none }).emitRequest .unresolved o.entry o.seq none).modTender fun x =>
    { x with reservedSeqs := x.reservedSeqs ++ [o.seq] }
  have hstep : s.queryExpired = v.orderUnresolved o.entry.order o.seq none true := by
    have hnot : (o.entry.kind == .orphan) = false := by rw [hkind]; rfl
    cases hp : o.phase with
    | awaitResult => exact absurd hp hphase
    | _ => simp only [State.queryExpired, ho, hp, hexp, hreach, if_true, State.requestUnresolved, hnot, hticket]; rfl
  refine ⟨_, rfl, ?_⟩
  rw [hdue, State.advance_reached hreach]
  refine State.perform_still hc ?_ hc.1 (by simp [State.occupied]; omega)
  change s.queryExpired = _
  rw [hstep, State.orderUnresolved_settling (s := v) hw hs hr hseq]
  simp only [v, State.emitRequest, hkind]
  rfl

/-! ## LINK_TEST (R200 to R202) -/

/-- A ticket whose order is 0 or live passes to its kind's own step (R1). -/
theorem State.forLiveOrder_accept {t : Ticket} {s : State} (h : t.order = 0 ∨ (s.findOrder t.order).isSome = true) (kind : Nat)
    (f : State → State) : (s.accept t).forLiveOrder t kind f = f (s.accept t) := by
  rcases h with h | h
  · simp [State.forLiveOrder, h]
  · obtain ⟨o, ho⟩ := Option.isSome_iff_exists.mp h
    obtain ⟨a, ha⟩ := State.accept_findOrder t ho
    simp [State.forLiveOrder, ha]

/-- With no request queued or outstanding LOOP_ON closes an open loop (R200). -/
theorem State.loopClose_closes {t : Ticket} {mode : Nat} {s : State} (hmode : mode ≤ 1) (hfree : s.tender.engaged = false)
    (hloop : s.tender.loopOn = false) :
    s.loopClose t mode =
      ((s.modTender fun x =>
        { x with loopOn := true, quiet := mode == 1, echo := 0, candidate := none, rx := [], heldLink := x.linkUp
                 heldAccepted := x.accepted }).emit
        (.tender .loop s.tender.accepted s.tender.accepted s.tender.linkUp true (mode == 1) 0) 0 0 t.seq).endTicket t 18 .ok 0 := by
  simp only [State.loopClose, if_neg (Nat.not_lt.mpr hmode), hfree, hloop]
  rfl

/-- With no SEND in course LOOP_OFF opens a closed loop (R200). -/
theorem State.loopOpen_opens {t : Ticket} {s : State} (hloop : s.tender.loopOn = true) (hsend : s.tender.testSend = none) :
    s.loopOpen t =
      ((s.modTender fun x =>
        { x with loopOn := false, linkUp := x.heldLink, accepted := x.heldAccepted, lastValid := some s.clock
                 candidate := none }).emit
        (.tender .loop s.tender.heldAccepted s.tender.heldAccepted s.tender.heldLink false s.tender.quiet s.tender.echo) 0 0
        t.seq).endTicket t 18 .ok s.tender.echo := by
  simp only [State.loopOpen, hsend, hloop]
  rfl

/-- A SEND begins in a closed loop with none in course (R201). -/
theorem State.testSend_begins {t : Ticket} {count : Nat} {s : State} (hcount : count ≠ 0) (hloop : s.tender.loopOn = true)
    (hsend : s.tender.testSend = none) :
    s.testSend t count = s.modTender fun x => { x with testSend := some { ticket := t, total := count, started := 0 } } := by
  simp [State.testSend, hsend, hloop, hcount]

/-- With no request queued or outstanding INSERT_ERROR arms one more insertion (R202). -/
theorem State.insertError_arms {t : Ticket} {s : State} (hfree : s.tender.engaged = false) :
    s.insertError t =
      (s.modTender fun x => { x with armed := min 255 (x.armed + 1) }).endTicket t 18 .ok (min 255 (s.tender.armed + 1)) := by
  simp only [State.insertError, hfree]
  rfl

/-- States with one still part have one tender link controller. -/
theorem State.tender_of_still {s t : State} (h : s.still = t.still) : s.tender = t.tender :=
  show s.still.tender = t.still.tender by rw [h]

/-- Settles O49: each action is one step of the tender link controller, at a state that has accepted the ticket. -/
theorem linkTested : Obligations.LinkTested := by
  intro t s ⟨ht, hlive⟩ hout hreq
  have hfree : (s.accept t).tender.engaged = false := by simp [Tender.engaged, hout, hreq]
  rw [← State.accept_tender t s, ← State.accept_clock t s]
  refine ⟨fun mode hmode hc hloop => ?_, fun hc hloop hsend => ?_, fun count hc hcount hloop hsend => ?_, fun hc => ?_⟩
  · have hstill := State.taking_perform_still (a := .cmd (.linkTestLoopOn t mode)) hc ht
      ((State.forLiveOrder_accept hlive _ _).trans (State.loopClose_closes hmode hfree hloop)) (State.accept_calm t hc).1 (by simp)
    refine ⟨_, rfl, fun hm => ?_, hstill⟩
    rw [State.tender_of_still hstill, hm]
    rfl
  · exact ⟨_, rfl, State.taking_perform_still hc ht ((State.forLiveOrder_accept hlive _ _).trans (State.loopOpen_opens hloop hsend))
      (State.accept_calm t hc).1 (by simp)⟩
  · exact ⟨_, rfl, State.taking_perform_still hc ht ((State.forLiveOrder_accept hlive _ _).trans (State.testSend_begins hcount hloop hsend))
      (State.accept_calm t hc).1 (by simp)⟩
  · exact ⟨_, rfl, State.taking_perform_still hc ht ((State.forLiveOrder_accept hlive _ _).trans (State.insertError_arms hfree))
      (State.accept_calm t hc).1 (by simp)⟩

/-! ## The cash acceptor's list (R161, R165, R166) -/

/-- Inhibit set again by two changes in a row is set by the second alone (R162). -/
theorem State.modCash_popCash (f : Cash → Cash) (s : State) : (s.modCash f).popCash = s.modCash fun c => { f c with list := (f c).list.tail } := rfl

/-- A payment accepted for a QUOTED order moves it to FUNDING (R11). -/
theorem State.raiseFunds_quoted {n seq : Nat} {o : Order} {s : State} (ho : s.findOrder n = some o) (hs : o.state = .quoted) :
    s.raiseFunds n seq =
      ((s.modOrder n fun o => { o with lastActivity := s.clock, state := .funding, awaitingEngine := false }).dropAwaiting n).emit
        (.orderState false (some .quoted) .funding .ticket) 0 n seq := by
  let f (o : Order) : Order := { o with lastActivity := s.clock }
  have hf : (s.touch n).findOrder n = some (f o) := State.findOrder_modOrder_self f (fun _ => rfl) ho
  have hstate : (f o).state = .quoted := hs
  have hquoted : (o.state == .quoted) = true := by simp [hs]
  have hto := State.orderTo_eq (new := .funding) (cause := .ticket) (seq := seq) hf (by simp [hstate]) (by simp [entryActs, hstate])
  rw [State.touch, State.modOrder_modOrder s n f _ fun _ => rfl, hstate] at hto
  simp only [State.raiseFunds, ho, hquoted, if_true]
  refine hto.trans ?_
  simp [OrderState.keepsAwaiting, OrderState.restartsTimer, f]
  rfl

/-- An accepted PAY_CASH_BIND of a QUOTED order (R11). -/
theorem State.acceptBind_quoted {n seq : Nat} {o : Order} {s : State} (ho : s.findOrder n = some o) (hs : o.state = .quoted) :
    s.acceptBind n seq =
      ((s.modOrder n fun o => { o with cashBound := true, lastActivity := s.clock, state := .funding, awaitingEngine := false }).dropAwaiting
        n).emit (.orderState false (some .quoted) .funding .ticket) 0 n seq := by
  let f (o : Order) : Order := { o with cashBound := true }
  have hf : (s.modOrder n f).findOrder n = some (f o) := State.findOrder_modOrder_self f (fun _ => rfl) ho
  refine (State.raiseFunds_quoted (seq := seq) hf hs).trans ?_
  rw [State.modOrder_modOrder s n f _ fun _ => rfl]
  rfl

/-- PAY_CASH_BIND of a QUOTED order, with nothing bound and an empty list (R11, R161). -/
theorem State.checkBind_accepts {t : Ticket} {o : Order} {s : State} (ho : s.findOrder t.order = some o) (hs : o.state = .quoted)
    (hphase : s.cash.phase = .none) (hlist : s.cash.list = []) :
    s.checkBind t =
      (((s.modOrder t.order fun o =>
        { o with cashBound := true, lastActivity := s.clock, state := .funding, awaitingEngine := false }).dropAwaiting t.order).emit
        (.orderState false (some .quoted) .funding .ticket) 0 t.order t.seq).modCash fun c =>
        { c with list := [.bind t o.cash (o.quote.getD 0 - o.held.getD 0)] } := by
  have hpays : o.state.takesPayment = true := by rw [hs]; rfl
  have hlisted : s.cash.bindListed = none := by simp [Cash.bindListed, hlist]
  simp only [State.checkBind, ho, hphase, hlisted, hpays, State.acceptBind_quoted ho hs]
  simp [State.modCash, hlist, Order.cashNeed]

/-- Settles O52: the acceptor checks the ticket at its take, and the event at the head of the list finds no ticket that waits behind it. -/
theorem cashBinding : Obligations.CashBinding := by
  intro t s
  refine ⟨fun ht => congrArg Host.Outcome.next (State.taking_of_not_takes ht _), fun hc => ⟨?_, ?_⟩⟩
  · intro o ht ho hs hphase hlist
    obtain ⟨a, ha⟩ := State.accept_findOrder t ho
    refine ⟨_, rfl, ?_⟩
    rw [State.taking_of_takes ht, State.payCashBind_at_once (by simpa using hlist)]
    refine State.perform_still (State.accept_calm t hc) ?_ (State.accept_calm t hc).1 (by simp [State.occupied]; omega)
    have haccept := State.acceptBind_quoted (seq := t.seq) ha hs
    have hlist' : (s.accept t).cash.list = [] := by simpa using hlist
    have hbind := State.checkBind_accepts (s := s.accept t) ha hs (by simpa using hphase) hlist'
    change (s.accept t).checkBind t = _
    rw [hbind]
    simp only [State.accept_clock]
  · intro seen need rest hlist hwait
    refine ⟨_, rfl, State.perform_still hc ?_ hc.1 (by simp [State.occupied]; omega)⟩
    have hstep : (s.modCash fun c => { c with phase := .bound, bound := t.order, seen := seen, need := need }).popCash =
      s.modCash fun c => { c with phase := .bound, bound := t.order, seen := seen, need := need, list := rest } := by
      rw [State.modCash_popCash]
      simp [State.modCash, hlist]
    change s.cashBindApplied = _
    simp only [State.cashBindApplied, hlist]
    rw [hstep]
    exact State.checkBinds_none hwait

/-- A group within the cash limit is credited whole (R13, R42). -/
theorem State.creditOrder_within {n count value : Nat} {o : Order} {s : State} (ho : s.findOrder n = some o) (hbound : o.cashBound = true)
    (hv : 0 < value) (hlimit : o.cash + count * value ≤ 2000000) :
    s.creditOrder n count value = some (count, s.modOrder n fun o =>
      { o with cash := o.cash + count * value, surplus := o.surplus.map (· + count * value), lastActivity := s.clock }) := by
  have hfits : count ≤ (Config.cashLimit - o.cash) / value := by
    rw [Nat.le_div_iff_mul_le hv, show Config.cashLimit = 2000000 from rfl]
    omega
  simp [State.creditOrder, ho, hbound, Nat.min_eq_left hfits]

/-- Below its quote an order is not funded (R37). -/
theorem State.fundingTest_below {n seq quote : Nat} {o : Order} {s : State} (ho : s.findOrder n = some o) (hq : o.quote = some quote)
    (h : o.funds < quote) : s.fundingTest n seq = s := by
  simp [State.fundingTest, ho, Order.isFunded, hq, Nat.not_le.mpr h]

/-- A credit group at the head of the list, credited whole below the quote (R165). -/
theorem State.cashCreditApplied_below {n count quote : Nat} {o : Order} {rest : List CashItem} {s : State}
    (hlist : s.cash.list = .credit (some n) count :: rest) (ho : s.findOrder n = some o) (hbound : o.cashBound = true)
    (hq : o.quote = some quote) (hv : 0 < s.cash.pulseValue) (hlimit : o.cash + count * s.cash.pulseValue ≤ 2000000)
    (hbelow : o.held.getD 0 + o.cash + count * s.cash.pulseValue < quote) (hwait : s.cash.bindWaiting = []) :
    let value := count * s.cash.pulseValue
    let v := s.modCash fun c => { c with seen := o.cash + value, need := quote - o.held.getD 0, list := rest }
    s.cashCreditApplied =
      (v.modOrder n fun o => { o with cash := o.cash + value, surplus := o.surplus.map (· + value), lastActivity := s.clock }).emit
        (.cash .credit count value (o.cash + value) none v.cash.inhibit) 0 n 0 := by
  intro value v
  let f (o : Order) : Order := { o with cash := o.cash + value, surplus := o.surplus.map (· + value), lastActivity := s.clock }
  have hf : (s.modOrder n f).findOrder n = some (f o) := State.findOrder_modOrder_self f (fun _ => rfl) ho
  have hlist' : ((s.modOrder n f).modCash fun c => { c with seen := (f o).cash, need := (f o).cashNeed }).popCash = v.modOrder n f := by
    rw [State.modCash_popCash]
    simp [State.modCash, State.modOrder, hlist, v, f, Order.cashNeed, hq]
  have hfund : ((v.modOrder n f).emit (.cash .credit count value (o.cash + value) none v.cash.inhibit) 0 n 0).fundingTest n 0 =
      (v.modOrder n f).emit (.cash .credit count value (o.cash + value) none v.cash.inhibit) 0 n 0 :=
    State.fundingTest_below (o := f o) hf hq (by simp only [Order.funds, f, value]; omega)
  have hcredit : s.creditOrder n count s.cash.pulseValue = some (count, s.modOrder n f) :=
    State.creditOrder_within ho hbound hv hlimit
  simp only [State.cashCreditApplied, hlist, hcredit, hf, hlist', lt_irrefl, if_false]
  exact (congrArg State.checkBinds hfund).trans (State.checkBinds_none hwait)

/-- Settles O54: neither group leaves a ticket that waits for the list to empty. -/
theorem cashCredited : Obligations.CashCredited := by
  intro s hc hwait
  constructor
  · intro n count o quote rest hlist ho hbound hs hq hpulse hlimit hbelow
    exact ⟨_, rfl, State.perform_still hc (State.cashCreditApplied_below hlist ho hbound hq hpulse hlimit hbelow hwait) hc.1
      (by simp)⟩
  · intro count rest hlist
    have hpop : s.popCash = s.modCash fun c => { c with list := rest } := by simp [State.popCash, State.modCash, hlist]
    have hstep : s.cashStrayApplied = (s.modCash fun c => { c with list := rest }).strayCash count .noBinding := by
      simp only [State.cashStrayApplied, hlist, hpop]
      exact State.checkBinds_none (by simpa [State.strayCash, State.emitCash, Cash.setInhibit] using hwait)
    exact ⟨_, rfl, State.perform_still hc hstep ⟨by simpa using hc.1.1, by simpa using hc.1.2⟩ (by simp)⟩

end Sys2Proof.Machine
end

section
/-! SUPPORT. A command whose step makes requests of other blocks: the state once they have been applied, in their order. O29 and O48. -/

namespace Sys2Proof.Machine

/-! ## Requests applied in a row -/

/-- `Applies l s n u`: the requests `l`, and those that they make ahead of the ones behind them, are applied from `s`, `n` in all, while no producer
waits and each finds its places, and leave `u`. The states between them are written with no request in course. -/
inductive State.Applies : List Act → State → Nat → State → Prop
  | done (s : State) : State.Applies [] s 0 s
  | step {a : Act} {l made : List Act} {s v u : State} {n : Nat} (happly : applyAct a s = v.pushAll made) (hagenda : v.agenda = [])
      (hwaiting : v.waiting = []) (hroom : v.occupied ≤ Config.outcomePlaces) (hrest : State.Applies (made ++ l) v n u) :
      State.Applies (a :: l) s (n + 1) u

theorem State.pushAll_eq (l : List Act) (s : State) : s.pushAll l = { s with agenda := s.agenda ++ l.map fun a => ⟨[], a⟩ } := by
  induction l generalizing s with
  | nil => simp [State.pushAll]
  | cons a l ih => simp [State.pushAll, ih, State.push]

/-- A request that makes no other. -/
theorem State.Applies.plain {a : Act} {l : List Act} {s v u : State} {n : Nat} (happly : applyAct a s = v) (hagenda : v.agenda = [])
    (hwaiting : v.waiting = []) (hroom : v.occupied ≤ Config.outcomePlaces) (hrest : State.Applies l v n u) :
    State.Applies (a :: l) s (n + 1) u :=
  .step (made := []) happly hagenda hwaiting hroom hrest

/-- A state with no request in course is as it is without those in course. -/
theorem State.bare {s : State} (h : s.agenda = []) : ({ s with agenda := [] } : State) = s := by rw [← h]

/-- The requests in course are applied as `Applies` says, whatever held lists they carry, for no producer waits. -/
theorem State.Applies.drain {l : List Act} {s u : State} {n : Nat} (h : State.Applies l s n u) :
    ∀ (k : Nat) (js : List Job), n ≤ k → s.agenda = [] → s.waiting = [] → u.exch.busMaster = true → js.map Job.act = l →
      State.Follows u (State.drain k { s with agenda := js }) := by
  induction h with
  | done s =>
    intro k js _ ha _ hb hjs
    obtain rfl := List.map_eq_nil_iff.mp hjs
    rw [State.bare ha]
    exact State.drain_follows k s hb (.inl ha)
  | @step a l made s v u n happly hagenda hwaiting hroom _ ih =>
    intro k js hk ha hw hb hjs
    obtain ⟨j, rest, rfl, rfl, rfl⟩ := List.map_eq_cons_iff.mp hjs
    obtain ⟨k, rfl⟩ := Nat.exists_eq_add_of_le' (Nat.succ_le_of_lt (Nat.lt_of_lt_of_le n.succ_pos hk))
    have hattempt : State.attempt j { s with agenda := rest } =
        { v with agenda := (made.map fun a => ⟨ownersOf j.act { s with agenda := rest }, a⟩) ++ rest } := by
      simp only [State.attempt, State.bare ha, happly, State.pushAll_eq, hagenda]
      simp
    have hprocess := State.process_applied j { s with agenda := rest } hw (.inl (by rw [hattempt]; exact hroom))
    rw [State.drain_cons k _ j rest rfl]
    change State.Follows u (State.drain k (State.process j { s with agenda := rest }))
    rw [hprocess, hattempt]
    exact ih k _ (Nat.le_of_succ_le_succ hk) hagenda hwaiting hb (by simp [Function.comp_def])

/-- A calm part's step whose requests are applied in a row. -/
theorem State.perform_applies {a : Act} {places n : Nat} {s u : State} (hc : s.calm places) (h : State.Applies [a] s n u) (hn : n ≤ 4096)
    (hb : u.exch.busMaster = true) : (s.perform a).still = u.still := by
  have hpush : s.push a = { s with agenda := [⟨[], a⟩] } := by simp [State.push, hc.1.1]
  have hfollows := h.drain Config.fuel [⟨[], a⟩] hn hc.1.1 hc.2.1 hb rfl
  rw [← hpush] at hfollows
  exact hfollows.still

/-- As `perform_applies`, for the step of a ticket that the part takes. -/
theorem State.taking_perform_applies {t : Ticket} {a : Act} {places n : Nat} {s u : State} (hc : s.calm places) (ht : s.takes t)
    (h : State.Applies [a] (s.accept t) n u) (hn : n ≤ 4096) (hb : u.exch.busMaster = true) :
    (s.taking t (State.perform a)).still = u.still := by
  rw [State.taking_of_takes ht]
  exact State.perform_applies (State.accept_calm t hc) h hn hb

/-! ## PAY_CARD (R153) -/

/-- PAY_CARD of a QUOTED order with no hold and no request (R11, R38): the HOLD is handed to the tender link controller. -/
theorem State.payCard_quoted {t : Ticket} {o : Order} {s : State} (ho : s.findOrder t.order = some o) (hs : o.state = .quoted)
    (hheld : o.held = none) (hreq : o.request = none) (hloop : s.tender.loopOn = false) :
    let amount := o.quote.getD 0 - o.cash
    s.payCard t =
      (((s.modOrder t.order fun o =>
        { o with request := some { kind := .hold, amount := amount }, lastActivity := s.clock, state := .funding
                 awaitingEngine := false }).dropAwaiting t.order).emit
        (.orderState false (some .quoted) .funding .ticket) 0 t.order t.seq).pushAll
        [.handTender { kind := .hold, order := t.order, amount := amount, reference := o.holdRef.getD 0, ticket := some t }] := by
  intro amount
  let f (o : Order) : Order := { o with request := some { kind := .hold, amount := amount } }
  have hf : (s.modOrder t.order f).findOrder t.order = some (f o) := State.findOrder_modOrder_self f (fun _ => rfl) ho
  have haccepts : o.acceptsCard = true := by simp [Order.acceptsCard, OrderState.takesPayment, hs, hheld, hreq]
  have hraise := State.raiseFunds_quoted (seq := t.seq) (s := (s.modOrder t.order f).push
    (.handTender { kind := .hold, order := t.order, amount := amount, reference := o.holdRef.getD 0, ticket := some t })) hf hs
  simp only [State.payCard, ho, hloop, haccepts, State.recordRequest]
  let g (o : Order) : Order := { o with lastActivity := s.clock, state := .funding, awaitingEngine := false }
  have hmod : (s.modOrder t.order f).modOrder t.order g = s.modOrder t.order fun o => g (f o) :=
    State.modOrder_modOrder s t.order f g fun _ => rfl
  exact hraise.trans (congrArg (fun v : State =>
    ((v.dropAwaiting t.order).emit (.orderState false (some .quoted) .funding .ticket) 0 t.order t.seq).push
      (.handTender { kind := .hold, order := t.order, amount := amount, reference := o.holdRef.getD 0, ticket := some t })) hmod)

/-- Settles O48: the order table's step, and then the one request it makes, that of the tender link controller. -/
theorem holdRequested : Obligations.HoldRequested := by
  intro t o s hc ht ho hs hheld hreq hloop
  obtain ⟨a, ha⟩ := State.accept_findOrder t ho
  have hcalm := State.accept_calm t hc
  have hstep := State.payCard_quoted ha hs hheld hreq (by simpa using hloop)
  have hroom : ((s.accept t).emit (.orderState false (some .quoted) .funding .ticket) 0 t.order t.seq).occupied ≤ Config.outcomePlaces := by
    rw [State.emit_occupied]
    exact hcalm.2.2
  rw [← State.accept_clock t s]
  exact ⟨_, rfl, State.taking_perform_applies hc ht
    (.step hstep hcalm.1.1 hcalm.2.1 hroom (.plain rfl hcalm.1.1 hcalm.2.1 hroom (.done _))) (by decide) hcalm.1.2⟩

/-! ## ENGINE_CONTROL (R129, R130, R132) -/

theorem engineOf_val (e : Fin 2) : engineOf e.val = some e := by fin_cases e <;> rfl

/-- A change of a port after another is one change. -/
theorem State.modPort_modPort (e : Fin 2) (f g : Port → Port) (s : State) :
    (s.modPort e f).modPort e g = s.modPort e fun p => g (f p) := by
  simp [State.modPort]

@[simp] theorem State.modPort_get (e : Fin 2) (f : Port → Port) (s : State) : (s.modPort e f).ports.get e = f (s.ports.get e) := by
  simp

/-- An engine moves to another state, with its outcome and its cause (R117); the scheduler learns of a departure from OFFLINE or FAULT (R77). -/
theorem State.portTo_eq (e : Fin 2) (new : EngineState) (cause : EngineCause) (order seq : Nat) (s : State) :
    let q := s.ports.get e
    let moved := ((s.modPort e fun p => { p with state := new }).emit
      (.engine cause q.state new q.faultRecord q.media q.sheets q.ribbons q.lastTemp) e.val order seq).attendIf
      (new.alarms || (s.exch.settings.engineBoth && q.state.alarms)) .engine
    s.portTo e new cause order seq = moved.pushAll (if q.state = .offline ∨ q.state = .fault then [.retryAwaiting] else []) := by
  intro q moved
  have hemit : (s.modPort e fun p => { p with state := new }).emitEngine e cause q.state order seq =
      (s.modPort e fun p => { p with state := new }).emit
        (.engine cause q.state new q.faultRecord q.media q.sheets q.ribbons q.lastTemp) e.val order seq := by
    simp only [State.emitEngine, State.modPort_get]
    rfl
  have hmoved : s.portTo e new cause order seq = if q.state == .offline || q.state == .fault then moved.push .retryAwaiting else moved := by
    simp only [State.portTo]
    rw [hemit]
    rfl
  rw [hmoved]
  by_cases hoff : q.state = .offline ∨ q.state = .fault
  · rw [if_pos (by simpa using hoff), if_pos hoff]
    rfl
  · rw [if_neg (by simpa using hoff), if_neg hoff]
    rfl

/-- An engine leaves its boundary for another state, out of one in which the scheduler counts it as an engine. -/
theorem State.portLeaves_eq {e : Fin 2} {new : EngineState} (cause : EngineCause) (order seq : Nat) {s : State}
    (hnew : (s.ports.get e).state ≠ new) (hon : ¬ ((s.ports.get e).state = .offline ∨ (s.ports.get e).state = .fault)) :
    let q := s.ports.get e
    s.portLeaves e new cause order seq =
      ((s.modPort e fun p => { p with offered := false, testCause := none, waitingPrint := none, state := new }).emit
        (.engine cause q.state new q.faultRecord q.media q.sheets q.ribbons q.lastTemp) e.val order seq).attendIf
        (new.alarms || (s.exch.settings.engineBoth && q.state.alarms)) .engine := by
  intro q
  have hto := State.portTo_eq e new cause order seq (s.modPort e Port.unoffered)
  simp only [State.modPort_get, State.modPort_modPort] at hto
  have hstate : (q.unoffered.state == new) = false := beq_eq_false_iff_ne.mpr hnew
  have hoff : ¬ (q.unoffered.state = .offline ∨ q.unoffered.state = .fault) := hon
  simp only [State.portLeaves, State.modPort_get]
  rw [hto, if_neg hoff]
  change (if (q.unoffered.state == new) = true then _ else _) = _
  rw [hstate]
  rfl

/-- PAUSE at IDLE (R129). -/
theorem State.pauseEngine_idle {t : Ticket} {e : Fin 2} {s : State} (hidle : (s.ports.get e).state = .idle) :
    let q := s.ports.get e
    s.pauseEngine t e.val =
      ((s.modPort e fun p =>
        { p with pauseRequested := true, offered := false, testCause := none, waitingPrint := none, state := .paused }).emit
        (.engine .pause .idle .paused q.faultRecord q.media q.sheets q.ribbons q.lastTemp) e.val 0 t.seq).endTicket t 13 .ok 0 := by
  intro q
  have hleaves := State.portLeaves_eq (e := e) (new := .paused) .pause 0 t.seq
    (s := s.modPort e fun p => { p with pauseRequested := true }) (by simp [hidle]) (by simp [hidle])
  simp only [State.modPort_get, State.modPort_modPort, hidle] at hleaves
  have hrests : (s.ports.get e).rests = true := by simp [Port.rests, hidle, EngineState.atRest]
  have hpaused : ((s.ports.get e).state == .paused) = false := by rw [hidle]; rfl
  simp only [State.pauseEngine, engineOf_val, hpaused, hrests]
  rw [hleaves]
  simp [EngineState.alarms, q]
  rfl

/-- RESUME of an engine that is not PAUSED (R130). -/
theorem State.resumeEngine_request {t : Ticket} {e : Fin 2} {s : State} (hreq : (s.ports.get e).pauseRequested = true)
    (hpaused : (s.ports.get e).state ≠ .paused) :
    s.resumeEngine t e.val = (s.modPort e fun p => { p with pauseRequested := false }).endTicket t 13 .ok 0 := by
  simp only [State.resumeEngine, engineOf_val, hreq]
  rw [if_neg (by simp), if_neg (by simpa using hpaused)]
  rfl

/-- RESET in FAULT (R132), with the retry that the departure asks for (R77). -/
theorem State.resetEngine_fault {t : Ticket} {e : Fin 2} {s : State} (hfault : (s.ports.get e).state = .fault) :
    let q := s.ports.get e
    s.resetEngine t e.val =
      ((((s.modPort e fun p => { p with faultRecord := none, state := .offline }).emit
        (.engine .reset .fault .offline none q.media q.sheets q.ribbons q.lastTemp) e.val 0 t.seq).attendIf
        s.exch.settings.engineBoth .engine).endTicket t 13 .ok 0).pushAll [.retryAwaiting] := by
  intro q
  have hto := State.portTo_eq e .offline .reset 0 t.seq (s.modPort e fun p => { p with faultRecord := none })
  simp only [State.modPort_get, State.modPort_modPort, hfault] at hto
  have hin : ((s.ports.get e).state == .fault) = true := by rw [hfault]; rfl
  simp only [State.resetEngine, engineOf_val, hin, if_true]
  rw [hto]
  simp [EngineState.alarms, q]
  rfl

/-- With no order awaiting an engine the retry asks for no placement (R77). -/
theorem State.retryAwaiting_none {s : State} (h : s.awaiting = []) : s.retryAwaiting = s := by
  simp [State.retryAwaiting, h, State.pushAll]

/-- Settles O29: PAUSE and RESUME make no request; RESET makes one, the retry of an awaiting list that is empty. -/
theorem engineControlled : Obligations.EngineControlled := by
  intro t e s ⟨ht, hlive⟩
  rw [← State.accept_ports t s, ← State.accept_awaiting t s]
  refine ⟨fun hc hidle => ?_, fun hc hreq hpaused => ?_, fun hc hfault hawaiting => ?_⟩
  · exact ⟨_, rfl, State.taking_perform_still hc ht ((State.forLiveOrder_accept hlive _ _).trans (State.pauseEngine_idle hidle))
      (State.accept_calm t hc).1 (by simp)⟩
  · exact ⟨_, rfl, State.taking_perform_still hc ht ((State.forLiveOrder_accept hlive _ _).trans (State.resumeEngine_request hreq hpaused))
      (State.accept_calm t hc).1 (by simp)⟩
  · have hcalm := State.accept_calm t hc
    have hsettings : (s.accept t).exch.settings = s.exch.settings := by simp
    have hstep := (State.forLiveOrder_accept hlive 13 _).trans (State.resetEngine_fault (t := t) hfault)
    rw [hsettings] at hstep
    refine ⟨_, rfl, State.taking_perform_applies hc ht
      (.step hstep (by simpa using hc.1.1) (by simpa using hcalm.2.1) (by simpa using hcalm.2.2) (.plain (State.retryAwaiting_none ?_)
        (by simpa using hc.1.1) (by simpa using hcalm.2.1) (by simpa using hcalm.2.2) (.done _))) (by decide) (by simpa using hcalm.1.2)⟩
    simpa using hawaiting

end Sys2Proof.Machine
end

section
/-! SUPPORT. The end of a print, delivered or SPOILED, and what the order table and the boundary make of it (R16, R82, R119, R122, R124, R125).
O39 and O40. -/

namespace Sys2Proof.Machine

/-! ## The print end step (R124) -/

/-- The renderer once a print has given it up, with the reservation of its profile released (R101, R103). -/
def Renderer.released (x : Renderer) : Renderer :=
  { x with
    activity := .idle, inHand := none, pass := none, fetchPos := none, ring := [], reserved := none
    inFetch := x.inFetch.map fun f => { f with stale := true } }

/-- The scheduler, the renderer and the outcomes as the end of the print `r` leaves them; the port has its own lemmas. -/
def State.endedPrint (e : Fin 2) (r : PrintRecord) (a : Run) (answer : Option CopyAnswer) (s : State) : State :=
  let q := s.ports.get e
  (((s.modSched e fun x => { x with active := some (a.afterPrint answer) }).modRend e Renderer.released).emit
    (.printEnd r.spoiled r.print.item r.print.copy r.print.reprint r.failed r.firstCause (if r.spoiled then q.faultRecord else none) answer
      q.sheets) e.val r.print.order 0)

section
variable (e : Fin 2) (r : PrintRecord) (a : Run) (answer : Option CopyAnswer) (s : State)

@[simp] theorem State.endedPrint_agenda : (s.endedPrint e r a answer).agenda = s.agenda := rfl
@[simp] theorem State.endedPrint_waiting : (s.endedPrint e r a answer).waiting = s.waiting := rfl
@[simp] theorem State.endedPrint_toneLoads : (s.endedPrint e r a answer).toneLoads = s.toneLoads := rfl
@[simp] theorem State.endedPrint_findOrder (n : Nat) : (s.endedPrint e r a answer).findOrder n = s.findOrder n := rfl
@[simp] theorem State.endedPrint_occupied : (s.endedPrint e r a answer).occupied = s.occupied + 1 := by simp [State.endedPrint]
@[simp] theorem State.endedPrint_active : ((s.endedPrint e r a answer).sched.get e).active = some (a.afterPrint answer) := by
  simp [State.endedPrint]

end

/-- The releases at a print's end, as one change of the renderer and one request. -/
theorem State.renderEnd_eq (e : Fin 2) (s : State) : s.renderEnd e = (s.modRend e Renderer.released).push .toneHead := by
  simp [State.renderEnd, State.releaseProfile, State.modRend]
  rfl

section
variable {e : Fin 2} {r : PrintRecord} {a : Run} {s : State}

/-- What the print end step does before the port changes. -/
theorem State.endedPrint_eq {answer : Option CopyAnswer} (ha : (s.sched.get e).active = some a) :
    let q := s.ports.get e
    ((((s.modSched e fun x => { x with active := x.active.map fun a => a.afterPrint answer }).push
      (.printReport r.print.order r.print.item answer)).renderEnd e).emit
      (.printEnd r.spoiled r.print.item r.print.copy r.print.reprint r.failed r.firstCause (if r.spoiled then q.faultRecord else none) answer
        q.sheets) e.val r.print.order 0) =
      (s.endedPrint e r a answer).pushAll [.printReport r.print.order r.print.item answer, .toneHead] := by
  have hsched : (s.modSched e fun x => { x with active := x.active.map fun a => a.afterPrint answer }) =
      s.modSched e fun x => { x with active := some (a.afterPrint answer) } := by simp [State.modSched, ha]
  rw [hsched, State.renderEnd_eq]
  rfl

/-- The print end step by its cases: a fault, a spoiled print, a delivered one. -/
theorem State.printEnd_eq (hr : (s.ports.get e).record = some r) (hph : (s.ports.get e).phase = some .ended)
    (ha : (s.sched.get e).active = some a) :
    let answer := if r.spoiled then some a.answer else none
    let w := ((s.endedPrint e r a answer).pushAll [.printReport r.print.order r.print.item answer, .toneHead]).modPort e fun p =>
      { p with record := none, phase := none, spoilUnwritten := p.spoilUnwritten || r.spoiled, heardAt := s.clock }
    s.printEnd e =
      if (s.ports.get e).faultRecord.isSome then w.portLeaves e .fault .fault r.print.order 0
      else if r.spoiled then w.portLeaves e .held .spoil r.print.order 0
      else w.push (.boundary e none 0) := by
  intro answer w
  simp only [w, answer, ← State.endedPrint_eq ha]
  simp only [State.printEnd, hr, hph, ha]
  rfl

/-- A print that a fault has ended: the engine goes to FAULT (R125). -/
theorem State.printEnd_fault {code : FaultCode} (hr : (s.ports.get e).record = some r) (hph : (s.ports.get e).phase = some .ended)
    (ha : (s.sched.get e).active = some a) (hspoiled : r.spoiled = true) (hf : (s.ports.get e).faultRecord = some code)
    (hp : (s.ports.get e).state = .printing) :
    let q := s.ports.get e
    s.printEnd e =
      ((((s.endedPrint e r a (some a.answer)).modPort e fun p =>
        { p with record := none, phase := none, spoilUnwritten := true, heardAt := s.clock
                 offered := false, testCause := none, waitingPrint := none, state := .fault }).emit
        (.engine .fault .printing .fault (some code) q.media q.sheets q.ribbons q.lastTemp) e.val r.print.order 0).attend .engine).pushAll
        [.printReport r.print.order r.print.item (some a.answer), .toneHead] := by
  intro q
  let f (p : Port) : Port := { p with record := none, phase := none, spoilUnwritten := true, heardAt := s.clock }
  let v := (s.endedPrint e r a (some a.answer)).pushAll [.printReport r.print.order r.print.item (some a.answer), .toneHead]
  have hport : (v.modPort e f).ports.get e = f q := v.modPort_get e f
  have hstate : ((v.modPort e f).ports.get e).state = .printing := by rw [hport]; exact hp
  have hleaves := State.portLeaves_eq (e := e) (new := .fault) .fault r.print.order 0 (s := v.modPort e f) (by rw [hstate]; decide)
    (by rw [hstate]; decide)
  simp only [hport, State.modPort_modPort, show (f q).state = .printing from hp, show (f q).faultRecord = some code from hf] at hleaves
  have hend := State.printEnd_eq hr hph ha
  simp only [hspoiled, hf, Option.isSome_some, if_true, Bool.or_true] at hend
  rw [hend]
  exact hleaves

/-- A print delivered: the boundary test follows (R119, R124). -/
theorem State.printEnd_delivered (hr : (s.ports.get e).record = some r) (hph : (s.ports.get e).phase = some .ended)
    (ha : (s.sched.get e).active = some a) (hspoiled : r.spoiled = false) (hf : (s.ports.get e).faultRecord = none) :
    s.printEnd e =
      ((s.endedPrint e r a none).modPort e fun p => { p with record := none, phase := none, heardAt := s.clock }).pushAll
        [.printReport r.print.order r.print.item none, .toneHead, .boundary e none 0] := by
  have hend := State.printEnd_eq hr hph ha
  simp only [hspoiled, hf, Option.isSome_none, Bool.false_eq_true, if_false, Bool.or_false] at hend
  exact hend

end

/-! ## The report of a print's end (R16) -/

/-- With an item still to print the accounted test moves nothing (R16). -/
theorem State.accountedTest_open {n seq k : Nat} {o : Order} {other : Item} {s : State} (h : s.findOrder n = some o)
    (hk : o.items[k]? = some other) (hopen : other.delivered + other.undeliverable < other.copies) : s.accountedTest n seq = s := by
  have hacc : o.accounted = false := by
    rw [Order.accounted, List.all_eq_false]
    exact ⟨other, List.mem_of_getElem? hk, by simp [Item.toPrint]; omega⟩
  simp [State.accountedTest, h, hacc]

/-- An order that is not CANCELLING is not settled by the quiet test (R21). -/
theorem State.quietTest_idle {n seq : Nat} {o : Order} {s : State} (h : s.findOrder n = some o) (hs : o.state ≠ .cancelling) :
    s.quietTest n seq = s := by
  simp [State.quietTest, h, hs]

/-- An order with an active run is not quiet (R21, R83). -/
theorem State.quietTest_active {n seq : Nat} {e : Fin 2} {a : Run} {s : State} (ha : (s.sched.get e).active = some a) (hn : a.order = n) :
    s.quietTest n seq = s := by
  have hruns : s.runsOf n ≠ 0 := by
    have hone : (s.sched.get e).runsOf n ≠ 0 := by simp [SchedEngine.runsOf, ha, hn]
    fin_cases e
    · exact fun h => hone (Nat.eq_zero_of_add_eq_zero_right h)
    · exact fun h => hone (Nat.eq_zero_of_add_eq_zero_left h)
  cases ho : s.findOrder n with
  | none => simp [State.quietTest, ho]
  | some o =>
    have hquiet : s.isQuiet o = false := by simp [State.isQuiet, State.findOrder_number ho, hruns]
    simp [State.quietTest, ho, hquiet]

/-- A report that settles no order: the counts change, and the quiet test that follows moves nothing. -/
theorem State.Applies.report {n item m : Nat} {answer : Option CopyAnswer} {l : List Act} {s u : State}
    (hagenda : s.agenda = []) (hwaiting : s.waiting = []) (hroom : s.occupied ≤ Config.outcomePlaces)
    (haccounted : (s.modOrder n fun o => o.modItem item fun i => i.afterPrint answer).accountedTest n 0 =
      s.modOrder n fun o => o.modItem item fun i => i.afterPrint answer)
    (hquiet : (s.modOrder n fun o => o.modItem item fun i => i.afterPrint answer).quietTest n 0 =
      s.modOrder n fun o => o.modItem item fun i => i.afterPrint answer)
    (hrest : State.Applies l (s.modOrder n fun o => o.modItem item fun i => i.afterPrint answer) m u) :
    State.Applies (.printReport n item answer :: l) s (m + 2) u :=
  .step (made := [.quiet n 0]) (congrArg (State.push (.quiet n 0)) haccounted) hagenda hwaiting hroom
    (.plain hquiet hagenda hwaiting hroom hrest)

/-- With an empty load list no read is started (R99). -/
theorem State.toneHead_none {s : State} (h : s.toneLoads = []) : s.toneHead = s := by simp [State.toneHead, h]

/-! ## A print that falls silent (R122) -/

/-- How the active run goes on after a spoiled print (R82). -/
theorem Run.afterPrint_some (a : Run) (x : CopyAnswer) :
    a.afterPrint (some x) =
      if x = .reprint then { a with reprint := true, reprintsLeft := a.reprintsLeft - 1 } else { a with copy := a.copy + 1, reprint := false } := by
  cases x <;> rfl

/-- The counts of an item after a spoiled print (R16). -/
theorem Item.afterPrint_some (i : Item) (x : CopyAnswer) :
    i.afterPrint (some x) =
      if x = .reprint then { i with spoiled := i.spoiled + 1 }
      else if i.delivered + i.undeliverable < i.assigned + i.withdrawn then
        { i with spoiled := i.spoiled + 1, undeliverable := i.undeliverable + 1 }
      else i := by
  cases x <;> simp [Item.afterPrint, Item.hasPrinting]

/-- The report of a print's end settles no order that is UNRESOLVED, CANCELLING with its run still active, or PRODUCING with another item still to
print (R16, R21). -/
theorem State.Applies.report_open {n item m : Nat} {answer : Option CopyAnswer} {e : Fin 2} {a : Run} {o : Order} {l : List Act} {s u : State}
    (hagenda : s.agenda = []) (hwaiting : s.waiting = []) (hroom : s.occupied ≤ Config.outcomePlaces)
    (ha : (s.sched.get e).active = some a) (ho : s.findOrder n = some o)
    (hstate : o.state = .unresolved ∨ (o.state = .cancelling ∧ a.order = n)
      ∨ (o.state = .producing ∧ ∃ k other, k ≠ item ∧ o.items[k]? = some other ∧ other.delivered + other.undeliverable < other.copies))
    (hrest : State.Applies l (s.modOrder n fun o => o.modItem item fun i => i.afterPrint answer) m u) :
    State.Applies (.printReport n item answer :: l) s (m + 2) u := by
  have hfind : (s.modOrder n fun o => o.modItem item fun i => i.afterPrint answer).findOrder n =
      some (o.modItem item fun i => i.afterPrint answer) := State.findOrder_modOrder_self _ (fun _ => rfl) ho
  have hsame : (o.modItem item fun i => i.afterPrint answer).state = o.state := rfl
  refine State.Applies.report hagenda hwaiting hroom ?_ ?_ hrest
  · rcases hstate with hs | ⟨hs, -⟩ | ⟨-, k, other, hk, hother, hopen⟩
    · exact State.accountedTest_idle hfind (by simp [hsame, hs]) (by simp [hsame, hs])
    · exact State.accountedTest_idle hfind (by simp [hsame, hs]) (by simp [hsame, hs])
    · exact State.accountedTest_open (k := k) hfind ((List.getElem?_modify_ne _ o.items hk.symm).trans hother) hopen
  · rcases hstate with hs | ⟨-, hn⟩ | ⟨hs, -⟩
    · exact State.quietTest_idle hfind (by simp [hsame, hs])
    · exact State.quietTest_active (s := s.modOrder n _) ha hn
    · exact State.quietTest_idle hfind (by simp [hsame, hs])

theorem Run.afterPrint_order (a : Run) (x : Option CopyAnswer) : (a.afterPrint x).order = a.order := by
  rcases x with _ | (_ | _ | _) <;> rfl

/-- The record of a print that a fault has ended (R125). -/
def PrintRecord.faultEnded (r : PrintRecord) : PrintRecord := { r with faulted := true, firstCause := some (r.firstCause.getD .fault) }

/-- A print under way that has fallen silent is ended by the fault SILENT (R122, R125). -/
theorem State.printSilence_gap {e : Fin 2} {s : State} (hawaits : (s.ports.get e).awaitsSignal = true)
    (hgap : reached s.clock ((s.ports.get e).signalAt + 2000) = true) :
    s.printSilence e =
      (s.modPort e fun p =>
        { p with faultRecord := some .silent, phase := some .ended, record := p.record.map PrintRecord.faultEnded }).pushAll [.printEnd e] := by
  simp only [State.printSilence, hawaits, show Config.printGap = 2000 from rfl, hgap]
  rfl

/-- The faulted end of a print with what it asks for: the report, its quiet test, and the load list's head, in a row. -/
theorem State.Applies.printEnd_fault {e : Fin 2} {r : PrintRecord} {a : Run} {o : Order} {code : FaultCode} {s : State} (hc : s.calm 2)
    (hr : (s.ports.get e).record = some r) (hph : (s.ports.get e).phase = some .ended) (ha : (s.sched.get e).active = some a)
    (hspoiled : r.spoiled = true) (hf : (s.ports.get e).faultRecord = some code) (hp : (s.ports.get e).state = .printing)
    (htones : s.toneLoads = []) (ho : s.findOrder r.print.order = some o)
    (hstate : o.state = .unresolved ∨ (o.state = .cancelling ∧ a.order = r.print.order)
      ∨ (o.state = .producing ∧ ∃ k other, k ≠ r.print.item ∧ o.items[k]? = some other
          ∧ other.delivered + other.undeliverable < other.copies)) :
    let q := s.ports.get e
    State.Applies [.printEnd e] s 4
      (((((s.endedPrint e r a (some a.answer)).modPort e fun p =>
        { p with record := none, phase := none, spoilUnwritten := true, heardAt := s.clock
                 offered := false, testCause := none, waitingPrint := none, state := .fault }).emit
        (.engine .fault .printing .fault (some code) q.media q.sheets q.ribbons q.lastTemp) e.val r.print.order 0).attend .engine).modOrder
        r.print.order fun o => o.modItem r.print.item fun i => i.afterPrint (some a.answer)) := by
  intro q
  let v := ((((s.endedPrint e r a (some a.answer)).modPort e fun p =>
        { p with record := none, phase := none, spoilUnwritten := true, heardAt := s.clock
                 offered := false, testCause := none, waitingPrint := none, state := .fault }).emit
        (.engine .fault .printing .fault (some code) q.media q.sheets q.ribbons q.lastTemp) e.val r.print.order 0).attend .engine)
  have hagenda : v.agenda = [] := by simpa [v] using hc.1.1
  have hwaiting : v.waiting = [] := by simpa [v] using hc.2.1
  have hroom : v.occupied ≤ Config.outcomePlaces := by
    simp only [v, State.attend_occupied, State.emit_occupied, State.modPort_occupied, State.endedPrint_occupied]
    exact hc.2.2
  have hactive : (v.sched.get e).active = some (a.afterPrint (some a.answer)) := by simp [v]
  have hfind : v.findOrder r.print.order = some o := by simpa [v] using ho
  have htone : (v.modOrder r.print.order fun o => o.modItem r.print.item fun i => i.afterPrint (some a.answer)).toneLoads = [] := by
    simpa [v] using htones
  have hrest := State.Applies.report_open (answer := some a.answer) hagenda hwaiting hroom hactive hfind (by rwa [Run.afterPrint_order])
    (.plain (a := .toneHead) (State.toneHead_none htone) hagenda hwaiting hroom (.done _))
  exact .step (a := .printEnd e) (State.printEnd_fault hr hph ha hspoiled hf hp) hagenda hwaiting hroom hrest

/-- Settles O39: the silence, the print end step, the report with its quiet test, and the load list's head, applied in a row. -/
theorem printFallsSilent : Obligations.PrintFallsSilent := by
  intro e r ph a o s hc hr hph hne hp hgap ha htones ho hstate q first answer
  have hawaits : q.awaitsSignal = true := by simp only [Port.awaitsSignal, q, hr, hph]
  have hdue : s.gapAt e = some (q.signalAt + 2000) := by simp only [State.gapAt]; exact if_pos hawaits
  let v := s.modPort e fun p => { p with faultRecord := some .silent, phase := some .ended, record := p.record.map PrintRecord.faultEnded }
  have hport : v.ports.get e = { q with faultRecord := some .silent, phase := some .ended, record := q.record.map PrintRecord.faultEnded } :=
    s.modPort_get e _
  have hend := State.Applies.printEnd_fault (e := e) (s := v) (r := r.faultEnded) (code := .silent) (a := a) (o := o) hc
    (by simp [hport, q, hr]) (by simp [hport]) ha (by simp [PrintRecord.spoiled, PrintRecord.faultEnded]) (by simp [hport])
    (by simp [hport, q, hp]) htones ho hstate
  refine ⟨_, rfl, ?_⟩
  rw [hdue, State.advance_reached hgap]
  refine (State.perform_applies hc (.step (a := .cmd (.printSilence e)) (State.printSilence_gap hawaits hgap) hc.1.1 hc.2.1
    (Nat.le_of_add_right_le hc.2.2) hend) (by decide) hc.1.2).trans (congrArg State.still ?_)
  have hports : (v.modPort e fun p =>
      { p with record := none, phase := none, spoilUnwritten := true, heardAt := s.clock
               offered := false, testCause := none, waitingPrint := none, state := .fault }) =
      s.modPort e fun p =>
      { p with faultRecord := some .silent, phase := none, record := none, spoilUnwritten := true, heardAt := s.clock
               offered := false, testCause := none, waitingPrint := none, state := .fault } := State.modPort_modPort e _ _ s
  have hspoiled : r.faultEnded.spoiled = true := by simp [PrintRecord.spoiled, PrintRecord.faultEnded]
  rw [← hports]
  simp only [State.endedPrint, hport, hspoiled, Run.afterPrint_some, Item.afterPrint_some]
  rfl

/-! ## A print delivered on the last sheet (R119, R124) -/

/-- The counts of an item after a delivered print (R16). -/
theorem Item.afterPrint_none (i : Item) :
    i.afterPrint none = if i.delivered + i.undeliverable < i.assigned + i.withdrawn then { i with delivered := i.delivered + 1 } else i := by
  simp [Item.afterPrint, Item.hasPrinting]

/-- At the boundary after a print that used the last sheet the engine goes to NO_MEDIA (R119). -/
theorem State.boundaryAsked_noSheets {e : Fin 2} {s : State} (hr : (s.ports.get e).record = none) (hp : (s.ports.get e).state = .printing)
    (hspoil : (s.ports.get e).spoilUnwritten = false) (hpause : (s.ports.get e).pauseRequested = false)
    (hsheets : (s.ports.get e).sheets = 0) :
    let q := s.ports.get e
    s.boundaryAsked e none 0 =
      ((s.modPort e fun p => { p with offered := false, testCause := none, waitingPrint := none, state := .noMedia }).emit
        (.engine .boundary .printing .noMedia q.faultRecord q.media 0 q.ribbons q.lastTemp) e.val 0 0).attend .engine := by
  intro q
  have hleaves := State.portLeaves_eq (e := e) (new := .noMedia) .boundary 0 0 (s := s) (by rw [hp]; decide) (by rw [hp]; decide)
  simp only [hp, hsheets] at hleaves
  simp [State.boundaryAsked, State.boundaryTest, hr, hp, hspoil, hpause, hsheets, hleaves]
  rfl

/-- Settles O40: the print end step, the report with its quiet test, the load list's head and the boundary test, applied in a row. -/
theorem printDelivered : Obligations.PrintDelivered := by
  intro e r a o other k s hc hr hfailed hfaulted hph hp hfault hspoil hpause hsheets ha htones ho hproducing hk hother hopen q
  have hspoiled : r.spoiled = false := by simp [PrintRecord.spoiled, hfailed, hfaulted]
  let f (p : Port) : Port := { p with record := none, phase := none, heardAt := s.clock }
  let v := (s.endedPrint e r a none).modPort e f
  let w := v.modOrder r.print.order fun o => o.modItem r.print.item fun i => i.afterPrint none
  have hagenda : v.agenda = [] := by simpa [v] using hc.1.1
  have hwaiting : v.waiting = [] := by simpa [v] using hc.2.1
  have hroom : v.occupied + 1 ≤ Config.outcomePlaces := by
    simp only [v, State.modPort_occupied, State.endedPrint_occupied]
    exact hc.2.2
  have hactive : (v.sched.get e).active = some (a.afterPrint none) := by simp [v]
  have hfind : v.findOrder r.print.order = some o := by simpa [v] using ho
  have htone : w.toneLoads = [] := by simpa [w, v] using htones
  have hport : w.ports.get e = f q := State.modPort_get e f (s.endedPrint e r a none)
  have hboundary := State.boundaryAsked_noSheets (e := e) (s := w) (by rw [hport]) (by rw [hport]; exact hp) (by rw [hport]; exact hspoil)
    (by rw [hport]; exact hpause) (by rw [hport]; exact hsheets)
  have hrest := State.Applies.report_open (answer := none) (l := [.toneHead, .boundary e none 0]) hagenda hwaiting
    (Nat.le_of_add_right_le hroom) hactive hfind
    (.inr (.inr ⟨hproducing, k, other, hk, hother, hopen⟩))
    (.plain (State.toneHead_none htone) hagenda hwaiting (Nat.le_of_add_right_le hroom)
      (.plain hboundary hagenda hwaiting (by simpa [w] using hroom) (.done _)))
  refine ⟨_, rfl, ?_⟩
  refine (State.perform_applies hc (.step (a := .cmd (.printEndStep e)) (State.printEnd_delivered hr hph ha hspoiled hfault) hagenda hwaiting
    (Nat.le_of_add_right_le hroom) hrest) (by decide) hc.1.2).trans (congrArg State.still ?_)
  have hports : (s.modPort e f).modPort e
      (fun p => { p with offered := false, testCause := none, waitingPrint := none, state := .noMedia }) =
      s.modPort e fun p =>
      { p with phase := none, record := none, heardAt := s.clock, offered := false, testCause := none, waitingPrint := none
               state := .noMedia } := State.modPort_modPort e _ _ s
  rw [← hports, hport, show (f q).faultRecord = none from hfault]
  simp only [w, v, State.endedPrint, hspoiled, hfailed, hsheets, Item.afterPrint_none]
  rfl

end Sys2Proof.Machine
end

section
/-! SUPPORT. The line of waiting producers (R5, R72, R178). O10. -/

namespace Sys2Proof.Machine

/-- A step has taken places exactly when more are occupied after it. -/
theorem State.placesTaken_ne_zero (s t : State) : (State.placesTaken s t != 0) = true ↔ s.occupied < t.occupied := by
  simp [State.placesTaken, Nat.sub_eq_zero_iff_le]

/-- The search for a follower passes over the requests that are held back. -/
theorem State.freeFollower_cons (s : State) (ahead l : List Job) (k : Job) [Decidable (s.heldBack ahead k l)] :
    s.freeFollower ahead (k :: l) = if s.heldBack ahead k l then s.freeFollower (ahead ++ [k]) l else some (k, ahead ++ l) := by
  have hcond : ((ahead.any fun i => sharesOwner (ownersOf i.act s) (ownersOf k.act s))
      || State.placesTaken s (State.attempt k { s with waiting := ahead ++ l }) != 0) = true ↔ s.heldBack ahead k l := by
    rw [Bool.or_eq_true, List.any_eq_true, State.placesTaken_ne_zero]
  by_cases h : s.heldBack ahead k l
  · rw [if_pos h, State.freeFollower, if_pos (hcond.mpr h)]
  · rw [if_neg h, State.freeFollower, if_neg (mt hcond.mp h)]

/-- A line whose requests are all held back has no follower that may be served. -/
theorem State.freeFollower_none (s : State) (line : List Job) :
    ∀ ahead, (∀ l k r, line = l ++ k :: r → s.heldBack (ahead ++ l) k r) → s.freeFollower ahead line = none := by
  induction line with
  | nil => exact fun _ _ => rfl
  | cons i line ih =>
    intro ahead h
    classical
    rw [State.freeFollower_cons, if_pos (by simpa using h [] i line rfl)]
    refine ih (ahead ++ [i]) fun l k r hline => ?_
    simpa using h (i :: l) k r (by rw [hline]; rfl)

/-- The first request that is not held back is the follower that is served. -/
theorem State.freeFollower_first (s : State) (k : Job) (r l : List Job) :
    ∀ ahead, (∀ l₁ i l₂, l = l₁ ++ i :: l₂ → s.heldBack (ahead ++ l₁) i (l₂ ++ k :: r)) → ¬ s.heldBack (ahead ++ l) k r →
      s.freeFollower ahead (l ++ k :: r) = some (k, ahead ++ l ++ r) := by
  classical
  induction l with
  | nil =>
    intro ahead _ hfree
    rw [List.nil_append, State.freeFollower_cons, if_neg (by simpa using hfree), List.append_nil]
  | cons i l ih =>
    intro ahead hheld hfree
    rw [List.cons_append, State.freeFollower_cons, if_pos (by simpa using hheld [] i l rfl),
      ih (ahead ++ [i]) (fun l₁ i' l₂ hl => by simpa using hheld (i :: l₁) i' l₂ (by rw [hl]; rfl)) (by simpa using hfree)]
    simp

section
variable {s : State} {j : Job} {rest : List Job}

/-- The oldest producer whose outcomes find their places is served. -/
theorem State.served_oldest (h : s.waiting = j :: rest) (hroom : (State.attempt j { s with waiting := rest }).occupied ≤ 16) :
    s.served = some (State.attempt j { s with waiting := rest }) := by
  have hfits : (State.attempt j { s with waiting := rest }).occupied ≤ Config.outcomePlaces := hroom
  simp only [State.served, h, hfits, decide_true, Bool.or_true, if_true]

/-- While the oldest producer's outcomes find no places, a follower is looked for. -/
theorem State.served_follower (h : s.waiting = j :: rest) (hfull : 16 < (State.attempt j { s with waiting := rest }).occupied)
    (htakes : s.occupied < (State.attempt j { s with waiting := rest }).occupied) :
    s.served = (s.freeFollower [j] rest).map fun x => State.attempt x.1 { s with waiting := x.2 } := by
  have hplaces : (State.placesTaken s (State.attempt j { s with waiting := rest }) == 0) = false := by
    simpa [bne] using (State.placesTaken_ne_zero s _).mpr htakes
  have hfits : ¬ (State.attempt j { s with waiting := rest }).occupied ≤ Config.outcomePlaces := Nat.not_le.mpr hfull
  simp only [State.served, h, hplaces, hfits, decide_false, Bool.or_false, Bool.false_eq_true, if_false]

end

/-- Settles O10: the oldest producer by its places, and a follower by induction along the line. -/
theorem oldestProducerServed : Obligations.OldestProducerServed := by
  intro j rest s h after
  refine ⟨fun hroom => ?_, fun hfull htakes => ⟨fun hq hheld => ?_, fun l k r hrest hheld hfree => ?_⟩⟩
  · have hserved := State.served_oldest h hroom
    exact congrArg (fun v : State => Host.Outcome.next v.settle) (by simp only [State.serveWaiting, hserved]; rfl)
  · have hnone := State.freeFollower_none s rest [j] hheld
    have hserved : s.serveWaiting = s := by
      simp [State.serveWaiting, State.served_follower h hfull htakes, hnone]
    have hfollows := State.settle_follows s hq
    refine ⟨s.settle, congrArg (fun v : State => Host.Outcome.next v.settle) hserved, hfollows.still, ?_⟩
    rw [← h]
    exact hfollows.waiting
  · have hfirst := State.freeFollower_first s k r l [j] hheld hfree
    rw [← hrest] at hfirst
    refine congrArg (fun v : State => Host.Outcome.next v.settle) ?_
    simp [State.serveWaiting, State.served_follower h hfull htakes, hfirst]

end Sys2Proof.Machine
end

section
/-! SUPPORT. The last burst of an exchange client's request (R173 to R175, R177, R179, R181, R193). O12. -/

namespace Sys2Proof.Machine

/-! ## The end of a burst -/

/-- The lane free again, and the first request of the place gone from its list. -/
def State.laneFreed (place : Nat) (s : State) : State :=
  (s.modMover fun m => { m with grant := none }).modMover fun m => { m with requests := dropHead place m.requests }

/-- The exchange controller's three clients use in RUNNING what their requests bring (R187, R189, R193). -/
theorem State.clientEnd_exchange {tag : ReqTag} {got : List Byte} {s : State} (hplace : tag.place ≤ 3) (hp : s.exch.part = .running) :
    s.clientEnd tag true got = s.exchangeDone tag got := by
  have hnot : (s.exch.part == .halted) = false := by rw [hp]; rfl
  cases tag with
  | push | pop | block | source | proofLine | prices | tone => simp only [ReqTag.place] at hplace; omega
  | _ => simp only [State.clientEnd, hnot]; rfl

/-- What the last burst brings an exchange client, and what follows. -/
theorem State.burstEnd_follows {d got : List Byte} {g : Grant} {r : Request} {tag : ReqTag} {s w : State} (hl : s.lastBurst g r)
    (hp : s.exch.part = .running) (htag : r.tag = tag) (hplace : tag.place ≤ 3)
    (hgot : (if g.write.isSome then r.got else r.got ++ fit g.length d) = got)
    (hw : (s.laneFreed g.place).exchangeDone tag got = w) (hq : w.quiet) :
    State.Follows w ((s.finishBurst (.done d)).settle) := by
  obtain ⟨hgrant, hhead, hlast⟩ := hl
  have hend : s.finishBurst (.done d) = (s.laneFreed g.place).clientEnd tag true got := by
    simp only [State.finishBurst, hgrant, hhead, if_neg (Nat.not_lt.mpr hlast), htag, hgot]
    rfl
  rw [hend, State.clientEnd_exchange (s := s.laneFreed g.place) hplace hp, hw]
  exact State.settle_follows w hq

/-! ## What the acknowledgements bring -/

/-- The notification test sets nothing below the threshold and before the linger has passed (R181). -/
theorem State.notifyTest_none {s : State} (hn : s.exch.unannounced < s.exch.settings.threshold)
    (hl : reached s.clock (s.exch.firstUnannounced + s.exch.settings.linger) = false) : s.notifyTest = s := by
  by_cases hu : 0 < s.exch.unannounced
  · simp [State.notifyTest, State.lingerAt, State.settings, Nat.not_le.mpr hn, hu, hl]
  · simp [State.notifyTest, State.lingerAt, State.settings, Nat.not_le.mpr hn, hu]

/-- A record that is no PRINT SPOILED notifies no engine port (R126, R179). -/
theorem State.spoilNotice_none {o : OutcomeRecord} {s : State} (h : ∀ i c b f w x a n, o.payload ≠ .printEnd true i c b f w x a n) :
    s.spoilNotice o = s := by
  simp only [State.spoilNotice]

/-- A record in the log (R179). -/
theorem State.freshMarkWritten_logged {o : OutcomeRecord} {rest : List OutcomeRecord} {s : State} (hout : s.exch.outcomes = o :: rest)
    (hspoil : ∀ i c b f w x a n, o.payload ≠ .printEnd true i c b f w x a n)
    (hn : s.exch.unannounced + 1 < s.exch.settings.threshold)
    (hl : reached s.clock ((if s.exch.unannounced = 0 then s.clock else s.exch.firstUnannounced) + s.exch.settings.linger) = false) :
    s.freshMarkWritten = s.modExch fun x =>
      { x with
        logWriter := .idle
        outcomes := rest
        logPos := (x.logPos + 1) % x.settings.logSize
        unannounced := x.unannounced + 1
        firstUnannounced := if x.unannounced = 0 then s.clock else x.firstUnannounced } := by
  simp only [State.freshMarkWritten, hout, beq_iff_eq]
  rw [State.notifyTest_none hn hl]
  exact State.spoilNotice_none hspoil

/-- A ticket whose body has been read is taken (R174, R177). -/
theorem State.bodyRead_takes {n : Nat} {left : List Header} {fence : List Nat} {h : Header} {b : Option (List Byte)} {body : List Byte}
    {s : State} (hscan : s.exch.scan = .taking left fence (some { header := h, body := b })) (hk : h.kind ≠ 10) (hn : n ∉ s.exch.inFlight) :
    s.bodyRead n body =
      (s.modExch fun x =>
        { x with scan := .taking left fence (some { header := h, body := some body }), inFlight := n :: x.inFlight }).request (.taken n)
        (s.slotAddress n + 1) 1 (some [2#8]) := by
  have hdeclined : s.offerDeclined h body = false := by simp [State.offerDeclined, kindCardRead, hk]
  simp [State.bodyRead, hscan, hn, hdeclined]

/-- With no candidate left and no rescan owed the scan ends (R174, R176). -/
theorem State.nextTake_last {fence : List Nat} {s : State} (h : s.exch.rescanOwed = false) :
    s.nextTake [] fence = s.modExch fun x => { x with scan := .idle } := by
  have hfence : pastFence (s.unmarked []).length (s.unmarked []) fence = none := rfl
  have hend : s.nextTake [] fence = s.endScan := by
    simp only [State.nextTake, hfence]
    cases s.exch.scansTickets <;> rfl
  rw [hend]
  simp [State.endScan, h, State.modExch]

/-- The acknowledgement of TAKEN (R174). -/
theorem State.takenWritten_hands {fence : List Nat} {h : Header} {b : List Byte} {s : State}
    (hscan : s.exch.scan = .taking [] fence (some { header := h, body := some b })) (hrescan : s.exch.rescanOwed = false) :
    let v := (if h.kind = 1 then s else s.touchAtTake h.order).modExch fun x => { x with scan := .idle }
    s.takenWritten =
      if 1 ≤ h.kind ∧ h.kind ≤ 18 then v.modExch fun x =>
        { x with handed := x.handed ++ [{ header := h, body := b, takenAt := s.clock, read := s.checkAtTake h b }] }
      else v.endTicket { slot := h.slot, seq := h.seq, order := h.order } h.kind .badKind 0 := by
  have hkind : (h.kind == kindOrderOpen) = true ↔ h.kind = 1 := beq_iff_eq
  have howned : h.owned = true ↔ 1 ≤ h.kind ∧ h.kind ≤ 18 := by simp [Header.owned]
  simp only [State.takenWritten, hscan, hkind, howned]
  generalize ht : (if h.kind = 1 then s else s.touchAtTake h.order) = t
  have hclock : t.clock = s.clock := by rw [← ht]; split <;> rfl
  have hcheck : t.checkAtTake h b = s.checkAtTake h b := by rw [← ht]; split <;> rfl
  have hnone : t.exch.rescanOwed = false := by rw [← ht]; split <;> exact hrescan
  rw [← hclock, ← hcheck]
  by_cases ho : 1 ≤ h.kind ∧ h.kind ≤ 18
  · rw [if_pos ho, if_pos ho]
    exact State.nextTake_last hnone
  · rw [if_neg ho, if_neg ho]
    exact State.nextTake_last hnone

/-- The owner write ends the completion (R175). -/
theorem State.ownerWritten_done {c : Ending} {rest : List Ending} {s : State} (hc : s.exch.completions = c :: rest)
    (hp : s.exch.reservedPlaces ≠ 0) :
    s.ownerWritten =
      (s.modExch fun x =>
        { x with
          completions := rest, writer := .idle, reservedPlaces := x.reservedPlaces - 1
          inFlight := x.inFlight.filter (· != c.ticket.slot) }).emit
        (.ticketDone c.ticket.slot c.kind c.code c.detail) 0 c.ticket.order c.ticket.seq := by
  obtain ⟨k, hk⟩ := Nat.exists_eq_succ_of_ne_zero hp
  simp only [State.ownerWritten, hc, hk]
  simp [State.modExch, hk]

/-- What was asked of the mover last is asked still when what follows has been done. -/
theorem State.Follows.mem_requests {s t : State} {r : Request} (h : State.Follows s t) (hr : r ∈ s.mover.requests) : r ∈ t.mover.requests :=
  h.requests.subset hr

/-- Settles O12: the tag of the request says whose acknowledgement its last burst is. -/
theorem recordWritten : Obligations.RecordWritten := by
  intro d g r s hq hrun hl slotAt
  refine ⟨?_, ?_, ?_, ?_, ?_, ?_⟩
  · intro o rest htag hwrite hout hspoil hn hlinger
    have hw := State.freshMarkWritten_logged (s := s.laneFreed g.place) hout hspoil hn hlinger
    exact ⟨_, rfl, (State.burstEnd_follows hl hrun htag (by decide) rfl hw hq).still⟩
  · intro n left fence h b htag hwrite hscan hk hn
    have hw := State.bodyRead_takes (s := s.laneFreed g.place) (body := r.got ++ fit g.length d) hscan hk hn
    have hfollows := State.burstEnd_follows hl hrun htag (Nat.le_of_ble_eq_true rfl) (by rw [hwrite]; rfl) hw hq
    exact ⟨_, rfl, hfollows.still, hfollows.mem_requests (List.mem_append_right _ (List.mem_singleton_self _))⟩
  · intro n fence h b htag hscan hrescan v
    have hw := State.takenWritten_hands (s := s.laneFreed g.place) hscan hrescan
    refine ⟨_, rfl, (State.burstEnd_follows hl hrun htag (Nat.le_of_ble_eq_true rfl) rfl hw ?_).still.trans ?_⟩
    · split_ifs <;> exact hq
    · simp only [v]
      split_ifs <;> rfl
  · intro n htag
    have hfollows := State.burstEnd_follows (d := d) (w := (s.laneFreed g.place).resultWritten n) hl hrun htag (Nat.le_of_ble_eq_true rfl) rfl
      rfl hq
    exact ⟨_, rfl, hfollows.still, hfollows.mem_requests (List.mem_append_right _ (List.mem_singleton_self _))⟩
  · intro n htag
    have hfollows := State.burstEnd_follows (d := d) (w := (s.laneFreed g.place).doneWritten n) hl hrun htag (Nat.le_of_ble_eq_true rfl) rfl
      rfl hq
    exact ⟨_, rfl, hfollows.still, hfollows.mem_requests (List.mem_append_right _ (List.mem_singleton_self _))⟩
  · intro n c rest htag hc hp
    have hw := State.ownerWritten_done (s := s.laneFreed g.place) hc hp
    exact ⟨_, rfl, (State.burstEnd_follows hl hrun htag (Nat.le_of_ble_eq_true rfl) rfl hw hq).still⟩

end Sys2Proof.Machine
end

section
/-! SUPPORT. LOAD_PRICES: its take, and the end of the read of its image (R31, R32). O22. -/

namespace Sys2Proof.Machine

/-! ## The take -/

/-- A ticket's arrival leaves a quiet part quiet. -/
theorem State.accept_quiet {s : State} (t : Ticket) (h : s.quiet) : (s.accept t).quiet := by
  obtain ⟨hagenda, hbus⟩ := h
  exact ⟨by rw [State.accept_agenda, hagenda], by rw [State.accept_exch, State.acceptOpen_busMaster, hbus]⟩

/-- A ticket that the part takes, with no order or a live one: its kind's own step, and what follows. -/
theorem State.taking_settle_follows {t : Ticket} {kind : Nat} {f : State → State} {s v : State} (ht : s.admits t)
    (hv : f (s.accept t) = v) (hq : v.quiet) : State.Follows v (s.taking t fun w => (w.forLiveOrder t kind f).settle) := by
  obtain ⟨htakes, hlive⟩ := ht
  rw [State.taking_of_takes htakes, State.forLiveOrder_accept hlive, hv]
  exact State.settle_follows v hq

/-- An image that would run past the address space refuses the ticket (R31). -/
theorem State.loadPrices_refused {t : Ticket} {address : Nat} {s : State} (h : Config.addressLimit < address + 768) :
    s.loadPrices t address = s.endTicket t 11 .badField 32 := if_pos h

/-- The image of a ticket that is the first of the list is asked for (R31). -/
theorem State.loadPrices_asks {t : Ticket} {address : Nat} {s : State} (h : address + 768 ≤ Config.addressLimit) (hl : s.priceLoads = []) :
    s.loadPrices t address =
      ({ s with priceLoads := [{ ticket := t, address := address }] } : State).request .prices address 768 none := by
  simp [State.loadPrices, Nat.not_lt.mpr h, hl, State.startPrices]

/-! ## The end of the read -/

/-- The last burst of a client's read ends its request with all the bytes read (R193). -/
theorem State.finishBurst_lastRead {d : List Byte} {g : Grant} {r : Request} {s : State} (hl : s.lastBurst g r) (hg : g.write = none) :
    s.finishBurst (.done d) = (s.laneFreed g.place).clientEnd r.tag true (r.got ++ fit g.length d) := by
  obtain ⟨hgrant, hhead, hlast⟩ := hl
  simp only [State.finishBurst, hgrant, hhead, hg, if_neg (Nat.not_lt.mpr hlast)]
  rfl

/-- With no ticket behind it, the head of the list leaves it empty (R31). -/
theorem State.pricesLeave_last {p : PriceLoad} {s : State} (h : s.priceLoads = [p]) : s.pricesLeave = { s with priceLoads := [] } := by
  simp [State.pricesLeave, State.startPrices, h]

/-- An image that passes the checks replaces the product table (R32). -/
theorem State.pricesRead_replaces {image : List Byte} {p : PriceLoad} {s : State} (hl : s.priceLoads = [p])
    (h : imageRefusal s.products s.useCounts image 32 0 = none) :
    s.pricesRead image =
      ({ s with products := imageProducts image, priceLoads := [] } : State).endTicket p.ticket 11 .ok
        ((imageProducts image).filter Product.valid).length := by
  simp only [State.pricesRead, hl, h]
  exact State.pricesLeave_last (p := p) rfl

/-- An image that fails a check leaves the product table (R32). -/
theorem State.pricesRead_refused {image : List Byte} {p : PriceLoad} {code : ResultCode} {k : Nat} {s : State} (hl : s.priceLoads = [p])
    (h : imageRefusal s.products s.useCounts image 32 0 = some (code, k)) :
    s.pricesRead image = ({ s with priceLoads := [] } : State).endTicket p.ticket 11 code k := by
  simp only [State.pricesRead, hl, h]
  exact State.pricesLeave_last hl

/-- The last burst of an image's read, and what follows. -/
theorem State.pricesBurst_follows {d : List Byte} {g : Grant} {r : Request} {s w : State} (hl : s.lastBurst g r) (htag : r.tag = .prices)
    (hg : g.write = none) (hw : (s.laneFreed g.place).pricesRead (r.got ++ fit g.length d) = w) (hq : w.quiet) :
    State.Follows w ((s.finishBurst (.done d)).settle) := by
  have hend : s.finishBurst (.done d) = w := by
    rw [State.finishBurst_lastRead hl hg, htag, ← hw]
    rfl
  rw [hend]
  exact State.settle_follows w hq

/-- Settles O22: the address check at the take, and the checks of R32 once the image has been read. -/
theorem pricesAsked : Obligations.PricesAsked := by
  refine ⟨fun t address s hq ht => ⟨fun hpast => ?_, fun hwithin hl => ?_⟩, ?_⟩
  · have hfollows := State.taking_settle_follows (kind := kindLoadPrices) ht (State.loadPrices_refused (t := t) hpast) (State.accept_quiet t hq)
    exact ⟨_, rfl, hfollows.still⟩
  · have hstep := State.loadPrices_asks (t := t) (s := s.accept t) hwithin (by rw [State.accept_priceLoads, hl])
    have hfollows := State.taking_settle_follows (kind := kindLoadPrices) ht hstep (State.accept_quiet t hq)
    refine ⟨_, rfl, hfollows.still, ?_⟩
    rw [← State.accept_mover t s]
    exact hfollows.requests
  · intro d g r p s hq hb htag hg hl image
    cases hcheck : imageRefusal s.products s.useCounts image 32 0 with
    | none =>
      have hread := State.pricesRead_replaces (s := s.laneFreed g.place) hl hcheck
      exact ⟨_, rfl, (State.pricesBurst_follows hb htag hg hread hq).still⟩
    | some refusal =>
      have hread := State.pricesRead_refused (s := s.laneFreed g.place) hl hcheck
      exact ⟨_, rfl, (State.pricesBurst_follows hb htag hg hread hq).still⟩

end Sys2Proof.Machine
end

section
/-! SUPPORT. The figures of a settlement and the course chosen by them (R40, R41). O18. -/

namespace Sys2Proof.Machine

/-! ## The charge (R40) -/

/-- An amount with its tax grows with the amount. -/
theorem add_taxOn_le_add_taxOn {a b : Nat} (h : a ≤ b) (rate : Nat) : a + taxOn a rate ≤ b + taxOn b rate := by
  unfold taxOn
  gcongr

/-- An order that delivered no more than its copies delivered for no more than its subtotal. -/
theorem deliveredSubtotal_le {items : List Item} (h : ∀ i ∈ items, i.delivered ≤ i.copies) :
    deliveredSubtotal items ≤ (items.map fun i => i.copies * i.unitPrice.getD 0).sum :=
  List.sum_le_sum fun i hi => Nat.mul_le_mul_right _ (h i hi)

/-- An order that delivered nothing has a delivered subtotal of 0. -/
theorem deliveredSubtotal_eq_zero {items : List Item} (h : ∀ i ∈ items, i.delivered = 0) : deliveredSubtotal items = 0 :=
  List.sum_eq_zero <| List.forall_mem_map.mpr fun i hi => by rw [h i hi, Nat.zero_mul]

/-- The charge is the delivered subtotal with its tax. -/
theorem settlementOf_charge (o : Order) :
    (settlementOf o).charge = deliveredSubtotal o.items + taxOn (deliveredSubtotal o.items) (o.taxRate.getD 0) := rfl

theorem settlementOf_charge_eq_zero {o : Order} (h : ∀ i ∈ o.items, i.delivered = 0) : (settlementOf o).charge = 0 := by
  simp [settlementOf_charge, deliveredSubtotal_eq_zero h, taxOn]

/-! ## The other figures (R41) -/

/-- What R41 says of the figures `f` that share a charge among the cash credited and the amount held. -/
structure Figures.Shares (f : Figures) (cash held : Nat) : Prop where
  cashApplied : f.cashApplied = min cash f.charge
  cardPart : f.cardPart = f.charge - f.cashApplied
  capture : f.capture = min f.cardPart held
  shortfall : f.shortfall = f.cardPart - f.capture
  surplus : f.surplus = cash - f.cashApplied

theorem settlementOf_shares (o : Order) : (settlementOf o).Shares o.cash (o.held.getD 0) := ⟨rfl, rfl, rfl, rfl, rfl⟩

/-! ## The course (R41) -/

/-- A request for the terminal joins the record with the figures written just before it, with the hold reference of the record. -/
theorem State.recordRequest_modOrder {n : Nat} {w : Order} {f : Order → Order} {r : OrderRequest} {s : State} (h : s.findOrder n = some w)
    (hnumber : ∀ o, (f o).number = o.number) (href : (f w).holdRef = w.holdRef) :
    (s.modOrder n f).recordRequest n r none =
      (s.modOrder n fun x => { f x with request := some r }).push
        (.handTender { kind := r.kind, order := n, amount := r.amount, reference := w.holdRef.getD 0 }) := by
  simp only [State.recordRequest, State.findOrder_modOrder_self f hnumber h, State.modOrder_modOrder s n f _ hnumber, href]

/-- A record in which the figures of a settlement have been written (R41). -/
def Figures.written (f : Figures) (x : Order) : Order := { x with charge := some f.charge, surplus := some f.surplus, shortfall := some f.shortfall }

section
variable {n seq : Nat} {o w : Order} {s : State}

/-- Without a hold the order goes on to the close (R41). -/
theorem State.chooseCourse_close (h : o.held = none) :
    s.chooseCourse n seq o =
      (s.modOrder n fun x => { (settlementOf o).written x with captured := some 0 }).push (.closeOrder n seq) := by
  simp only [State.chooseCourse, h]
  exact congrArg (State.push _) (State.modOrder_modOrder s n (settlementOf o).written _ fun _ => rfl)

/-- With a hold one request is made of the terminal: a CAPTURE above 0, else a RELEASE (R41). -/
theorem State.chooseCourse_held {amount : Nat} (hw : s.findOrder n = some w) (h : o.held = some amount) :
    let f := settlementOf o
    let asked (r : OrderRequest) : State :=
      (s.modOrder n fun x => { f.written x with request := some r }).push
        (.handTender { kind := r.kind, order := n, amount := r.amount, reference := w.holdRef.getD 0 })
    s.chooseCourse n seq o =
      if 0 < f.capture then asked { kind := .capture, amount := f.capture, cardPart := f.cardPart }
      else asked { kind := .release, amount := 0 } := by
  intro f asked
  have hasked (r : OrderRequest) : (s.modOrder n f.written).recordRequest n r none = asked r :=
    State.recordRequest_modOrder hw (fun _ => rfl) rfl
  simp only [State.chooseCourse, h, ← hasked]
  rfl

end

/-- Settles O18: the charge from the delivered subtotal, the bounds by arithmetic from R41's five equations, and the course by its three cases. -/
theorem settlementFigures : Obligations.SettlementFigures := by
  refine ⟨fun o => ?_, ?_⟩
  · intro delivered quoted taxed held f
    obtain ⟨hcash, hcard, hcapture, hshort, hsurplus⟩ : f.Shares o.cash held := settlementOf_shares o
    have hbound (h : ∀ i ∈ o.items, i.delivered ≤ i.copies) : delivered ≤ quoted ∧ f.charge ≤ taxed quoted :=
      have hle := deliveredSubtotal_le h
      ⟨hle, add_taxOn_le_add_taxOn hle _⟩
    refine ⟨settlementOf_charge o, hbound, settlementOf_charge_eq_zero, hcash, hcard, hcapture, hshort, hsurplus, ?_⟩
    clear_value f held
    omega
  · intro n seq o w s hw f asked
    cases hheld : o.held with
    | none => exact State.chooseCourse_close hheld
    | some amount => exact State.chooseCourse_held hw hheld

end Sys2Proof.Machine
end

section
/-! SUPPORT. The card slots: the settle time, the identification, the block attempts and the begin of a read (R49 to R62). O24 to O27. -/

namespace Sys2Proof.Machine

/-! ## Steps with requests of the memory mover -/

/-- As `perform_still`, with the requests made of the memory mover. -/
theorem State.perform_follows {a : Act} {places : Nat} {s v : State} (hc : s.calm places) (he : applyAct a s = v) (hq : v.quiet)
    (hr : v.occupied ≤ s.occupied + places) : State.Follows v (s.perform a) := by
  subst he
  exact State.perform_plain a s places hc hq.1 hq.2 hr

/-! ## Changes of a slot -/

theorem slotOf_val (n : Fin 4) : slotOf n.val = some n := by fin_cases n <;> rfl

/-- A change of a slot after another is one change. -/
theorem State.modSlot_modSlot (n : Fin 4) (f g : Slot → Slot) (s : State) : (s.modSlot n f).modSlot n g = s.modSlot n fun x => g (f x) := by
  simp [State.modSlot]

theorem State.modSlot_get (n : Fin 4) (f : Slot → Slot) (s : State) : (s.modSlot n f).slots.get n = f (s.slots.get n) := by
  simp

/-- A change of a slot is known by what it makes of the slot as it is. -/
theorem State.modSlot_congr {n : Fin 4} {f g : Slot → Slot} {s : State} (h : f (s.slots.get n) = g (s.slots.get n)) :
    s.modSlot n f = s.modSlot n g := by
  simp only [State.modSlot, h]

/-- The CARD outcome of a change carries the slot's figures after it (R53, log entry 19). -/
theorem State.emitCard_modSlot (n : Fin 4) (cause : CardCause) (prev : SlotState) (attempts order : Nat) (failure : Option IdentifyFailure)
    (f : Slot → Slot) (s : State) :
    let x := f (s.slots.get n)
    (s.modSlot n f).emitCard n cause prev attempts order failure =
      (s.modSlot n f).emit (.card cause prev x.state x.capacity attempts x.queue.length failure) n.val order 0 := by
  simp only [State.emitCard, State.modSlot_get]

/-- An outcome queued before a change of a slot is the one queued after it. -/
theorem State.emit_modSlot (n : Fin 4) (f : Slot → Slot) (p : Payload) (unit order seq : Nat) (s : State) :
    (s.emit p unit order seq).modSlot n f = (s.modSlot n f).emit p unit order seq := rfl

/-- No REMOVAL waits at a slot whose waiting declaration is another or none. -/
theorem Slot.removalWaits_eq_false {x : Slot} (h : x.waiting ≠ some .removal) : x.removalWaits = false := by
  simpa [Slot.removalWaits] using h

/-! ## The settle time and the identification (R49 to R51) -/

section
variable {n : Fin 4} {s : State}

/-- At the end of the settle time the first identify request goes out (R49, R51). -/
theorem State.settleEnd_reached (hstate : (s.slots.get n).state = .settled) (hwait : (s.slots.get n).waiting ≠ some .removal)
    (ht : reached s.clock ((s.slots.get n).since + 20) = true) :
    let x := s.slots.get n
    s.settleEnd n =
      (s.modSlot n fun x => { x with state := .identifying, attempts := x.attempts + 1, request := some .identify, since := s.clock }).emit
        (.card .settled .settled .identifying x.capacity x.attempts x.queue.length none) n.val 0 0 := by
  intro x
  have hends : ((s.slots.get n).state == .settled && !(s.slots.get n).removalWaits
      && reached s.clock ((s.slots.get n).since + Config.settleTime)) = true := by
    simp [hstate, Slot.removalWaits_eq_false hwait, Config.settleTime, ht]
  simp only [State.settleEnd, hends, if_true]
  rw [State.emitCard_modSlot, State.emit_modSlot, State.modSlot_modSlot]
  rfl

theorem State.settleEndAt_settled (hstate : (s.slots.get n).state = .settled) (hwait : (s.slots.get n).waiting ≠ some .removal) :
    s.settleEndAt n = some ((s.slots.get n).since + 20) := by
  simp [State.settleEndAt, Config.settleTime, hstate, Slot.removalWaits_eq_false hwait]

/-- A first or second attempt with no answer brings the next (R51). -/
theorem State.identifyTimedOut_again (hstate : (s.slots.get n).state = .identifying) (hreq : (s.slots.get n).request = some .identify)
    (hleft : (s.slots.get n).attempts < 3) (ht : reached s.clock ((s.slots.get n).since + 100) = true) :
    s.identifyTimedOut n = s.modSlot n fun x => { x with attempts := x.attempts + 1, since := s.clock } := by
  simp only [State.identifyTimedOut, State.identifyFailed, Config.identifyWait, hstate, hreq, ht, hleft, beq_self_eq_true, Bool.and_self, if_true]
  exact State.modSlot_congr (by rw [Slot.sendIdentify, ← hreq])

theorem State.identifyAt_identifying (hstate : (s.slots.get n).state = .identifying) (hreq : (s.slots.get n).request = some .identify) :
    s.identifyAt n = some ((s.slots.get n).since + 100) := by
  simp [State.identifyAt, Config.identifyWait, hstate, hreq]

/-- A good identify answer ends the attempts, and asks for the change to READY (R50, R51). -/
theorem State.identifyAnswered_good {capacity : Nat} (hstate : (s.slots.get n).state = .identifying)
    (hreq : (s.slots.get n).request = some .identify) (hcap : capacity ≠ 0) :
    s.identifyAnswered n capacity (cardCheck (beBytes 4 capacity)) =
      (s.modSlot n fun x => { x with request := none }).pushAll [.identified n capacity] := by
  simp [State.identifyAnswered, hstate, hreq, hcap, State.pushAll]

/-- The change to READY with the card's capacity (R51, R53). -/
theorem State.identified_ready (capacity : Nat) (hstate : (s.slots.get n).state = .identifying)
    (hwait : (s.slots.get n).waiting ≠ some .removal) :
    let x := s.slots.get n
    s.identified n capacity =
      (s.modSlot n fun x => { x with state := .ready, capacity := capacity, attempts := 0 }).emit
        (.card .identified .identifying .ready capacity x.attempts x.queue.length none) n.val 0 0 := by
  intro x
  have hmoves : ((s.slots.get n).state == .identifying && !(s.slots.get n).removalWaits) = true := by
    simp [hstate, Slot.removalWaits_eq_false hwait]
  simp only [State.identified, hmoves, if_true]
  exact State.emitCard_modSlot n _ _ _ 0 none _ s

/-! ## The course of a read (R58, R59) -/

/-- The current extent is that of the read in flight at the read position. -/
theorem Slot.extent_eq_some {x : Slot} {r : ReadEntry} {e : Extent} {p : ReadPos} (hr : x.inFlight = some r) (hp : x.pos = some p)
    (he : r.extents[p.extent]? = some e) : x.extent = some (r, e, p) := by
  simp only [Slot.extent, hr, hp, he]

/-- The read in flight is the head of a READING slot's queue (R46). -/
theorem Slot.inFlight_reading {x : Slot} {r : ReadEntry} {q : List ReadEntry} (hstate : x.state = .reading) (hq : x.queue = r :: q) :
    x.inFlight = some r := by
  simp [Slot.inFlight, hstate, hq]

/-- From a read position the block at its place in its extent is asked for (R59). -/
theorem Slot.sendBlock_at {x : Slot} {r : ReadEntry} {e : Extent} {p : ReadPos} (hr : x.inFlight = some r)
    (he : r.extents[p.extent]? = some e) (now : Nat) :
    ({ x with pos := some p } : Slot).sendBlock now =
      { x with pos := some p, request := some (.block (e.start + p.block)), since := now } := by
  have hx : ({ x with pos := some p } : Slot).extent = some (r, e, p) := Slot.extent_eq_some hr rfl he
  simp only [Slot.sendBlock, hx]

/-- Bytes that are as many as asked for are taken as they stand. -/
theorem fitFrom_length (i : Nat) (l : List Byte) : fitFrom l.length i l = l := by
  induction l generalizing i with
  | nil => rfl
  | cons b l ih => exact congrArg (b :: ·) (ih (i + 1))

section
variable {r : ReadEntry} {e : Extent} {p : ReadPos} (hr : (s.slots.get n).inFlight = some r) (hp : (s.slots.get n).pos = some p)
  (he : r.extents[p.extent]? = some e)
include hr hp he

/-- A failed attempt of a block, but for the fourth, is a check error and brings the next (R59, R60, R70). -/
theorem State.blockFailed_again (hleft : p.attempt < 4) :
    s.blockFailed n =
      (s.count (.checkErrors n) 1).modSlot n fun x =>
        { x with pos := some { p with attempt := p.attempt + 1 }, request := some (.block (e.start + p.block)), since := s.clock } := by
  simp only [State.blockFailed, Slot.extent_eq_some hr hp he, if_pos hleft, State.count_clock]
  refine State.modSlot_congr ?_
  rw [State.count_slots]
  exact Slot.sendBlock_at (p := { p with attempt := p.attempt + 1 }) hr he s.clock

/-- A good block goes to the memory mover (R59). -/
theorem State.blockAnswered_good {b : Nat} {data : List Byte} (hreq : (s.slots.get n).request = some (.block b)) (hlen : data.length = 512) :
    s.blockAnswered n data (cardCheck data) =
      (s.modSlot n fun x => { x with request := none, writing := true }).request (.block n) (e.dest + 512 * p.block) 512 (some data) := by
  have hwhole : fit 512 data = data := by
    rw [← hlen]
    exact fitFrom_length 0 data
  simp [State.blockAnswered, Slot.extent_eq_some hr hp he, hreq, hwhole]

end

theorem State.blockTimedOut_reached {b : Nat} (hreq : (s.slots.get n).request = some (.block b))
    (ht : reached s.clock ((s.slots.get n).since + 50) = true) : s.blockTimedOut n = s.blockFailed n := by
  simp [State.blockTimedOut, hreq, Config.blockWait, ht]

theorem State.blockAt_block {b : Nat} (hreq : (s.slots.get n).request = some (.block b)) :
    s.blockAt n = some ((s.slots.get n).since + 50) := by
  simp [State.blockAt, hreq, Config.blockWait]

/-- A slot whose head read has asked for the first block of its first extent (R58). -/
def Slot.started (e : Extent) (now : Nat) (x : Slot) : Slot :=
  { x with pos := some { extent := 0, block := 0, attempt := 1 }, request := some (.block e.start), since := now }

/-- The head of a READING slot's queue, which names no order, starts with no report (R58). -/
theorem State.startRead_browsing {r : ReadEntry} {e : Extent} {es : List Extent} (hr : (s.slots.get n).inFlight = some r)
    (hwait : (s.slots.get n).waiting ≠ some .removal) (horder : r.order = 0) (hes : r.extents = e :: es) :
    s.startRead n = s.modSlot n (Slot.started e s.clock) := by
  have hsilent : s.reportStaging r .start = s := by simp [State.reportStaging, ReadEntry.namesItem, horder]
  simp only [State.startRead, hr, Slot.removalWaits_eq_false hwait, hsilent, Bool.false_eq_true, if_false]
  refine State.modSlot_congr ?_
  exact Slot.sendBlock_at (p := { extent := 0, block := 0, attempt := 1 }) hr (by rw [hes]; rfl) s.clock

/-- The change to READING of a slot whose queue's head names no order (R53, R57, R58). -/
theorem State.readBegin_browsing {r : ReadEntry} {q : List ReadEntry} {e : Extent} {es : List Extent}
    (hstate : (s.slots.get n).state = .ready) (hwait : (s.slots.get n).waiting ≠ some .removal) (hq : (s.slots.get n).queue = r :: q)
    (horder : r.order = 0) (hes : r.extents = e :: es) :
    let x := s.slots.get n
    s.readBegin n =
      (s.modSlot n fun x => ({ x with state := .reading } : Slot).started e s.clock).emit
        (.card .readBegin .ready .reading x.capacity x.attempts x.queue.length none) n.val 0 0 := by
  intro x
  have hmoves : ((s.slots.get n).state == .ready && !(s.slots.get n).removalWaits) = true := by
    simp [hstate, Slot.removalWaits_eq_false hwait]
  let v := (s.modSlot n fun x => { x with state := .reading }).emitCard n .readBegin .ready x.attempts 0 none
  have hget : v.slots.get n = { x with state := .reading } := State.modSlot_get n (fun x => { x with state := .reading }) s
  have hstart : v.startRead n = v.modSlot n (Slot.started e s.clock) :=
    State.startRead_browsing ((congrArg Slot.inFlight hget).trans (Slot.inFlight_reading rfl hq)) (by rw [hget]; exact hwait) horder hes
  simp only [State.readBegin, hmoves, hq, List.head?_cons, horder]
  refine hstart.trans ?_
  simp only [v, State.emitCard_modSlot, State.emit_modSlot, State.modSlot_modSlot]
  rfl

/-! ## CARD_READ (R55 to R57) -/

/-- A sound CARD_READ that names no order passes the checks of a READY slot (R56). -/
theorem State.readCheck_passes {e : Extent} {es : List Extent} (hstate : (s.slots.get n).state = .ready)
    (hwait : (s.slots.get n).waiting ≠ some .removal) (hlen : es.length ≤ 7)
    (hsound : ∀ x ∈ e :: es, x.count ≠ 0 ∧ x.start + x.count ≤ (s.slots.get n).capacity ∧ x.dest + 512 * x.count ≤ Config.addressLimit) :
    s.readCheck 0 n.val 255 (e :: es) = .passed n := by
  have hcount : ((e :: es).any fun x => x.count == 0) = false := by
    simpa only [List.any_eq_false, beq_iff_eq] using fun x hx => (hsound x hx).1
  have hbad : (e :: es).findIdx? (Extent.bad (s.slots.get n).capacity) = none := by
    refine List.findIdx?_eq_none_iff.mpr fun x hx => ?_
    obtain ⟨-, hcard, hspace⟩ := hsound x hx
    simp [Extent.bad, Nat.not_lt.mpr hcard, Nat.not_lt.mpr hspace]
  simp only [State.readCheck, slotOf_val, hcount, hbad]
  simp [hstate, Slot.removalWaits_eq_false hwait, Nat.lt_succ_of_le hlen]

/-- What every hand-over of a ticket keeps is what the slot's checks made of it, and what they make of it now when there is none (log entry 3). -/
theorem State.readVerdict_of_kept {t : Ticket} {c : ReadCheck} {slot item : Nat} {es : List Extent}
    (hkept : ∀ h ∈ s.exch.handed, h.header.ticket = t → h.read = some c) (hhere : s.readCheck t.order slot item es = c) :
    s.readVerdict t slot item es = c := by
  cases hfind : s.exch.handed.find? fun h => h.header.ticket == t with
  | none => exact (State.readVerdict_here (by simpa [State.handedOn] using hfind) slot item es).trans hhere
  | some h =>
    exact State.readVerdict_handed hfind (hkept h (List.mem_of_find?_eq_some hfind) (by simpa using List.find?_some hfind)) slot item es

/-- The slot's unit declines an offer when the read queue has no place to give (R55). -/
theorem State.declinesRead_val (n : Fin 4) (s : State) : s.declinesRead n.val = decide (4 ≤ s.readPlaces n) := by
  simp only [State.declinesRead, slotOf_val]
  rfl

/-- A read that names no order joins the empty queue of a READY slot, and asks for the change to READING (R57). -/
theorem State.readOrder_browsing {t : Ticket} {es : List Extent} (item : Nat) (horder : t.order = 0) (hpart : s.exch.part = .running)
    (hstate : (s.slots.get n).state = .ready) (hq : (s.slots.get n).queue = []) :
    s.readOrder t n item es =
      (s.modSlot n fun x => { x with queue := [{ ticket := t, order := 0, item := item, extents := es }] }).pushAll [.readBegin n] := by
  have hjoins : s.modSlot n (fun x => { x with queue := x.queue ++ [{ ticket := t, order := 0, item := item, extents := es }] }) =
      s.modSlot n fun x => { x with queue := [{ ticket := t, order := 0, item := item, extents := es }] } :=
    State.modSlot_congr (by simp [hq])
  simp only [State.readOrder, State.readOrderRefusal, horder, hpart, hstate, hq, hjoins]
  rfl

/-- A calm part lets the read begin at once (R57, R58). -/
theorem State.readOrder_applies {t : Ticket} {e : Extent} {es : List Extent} (item : Nat) (hc : s.calm 1) (horder : t.order = 0)
    (hpart : s.exch.part = .running) (hstate : (s.slots.get n).state = .ready) (hwait : (s.slots.get n).waiting ≠ some .removal)
    (hq : (s.slots.get n).queue = []) :
    let x := s.slots.get n
    let entry : ReadEntry := { ticket := t, order := 0, item := item, extents := e :: es }
    State.Applies [.readOrder t n item (e :: es)] s 2
      ((s.modSlot n fun x => ({ x with state := .reading, queue := [entry] } : Slot).started e s.clock).emit
        (.card .readBegin .ready .reading x.capacity x.attempts 1 none) n.val 0 0) := by
  intro x entry
  have ⟨⟨hagenda, _⟩, hline, hplaces⟩ := hc
  let v := s.modSlot n fun x => { x with queue := [entry] }
  have hget : v.slots.get n = { x with queue := [entry] } := State.modSlot_get n _ s
  have hbegins := State.readBegin_browsing (s := v) (n := n) (r := entry) (by rw [hget]; exact hstate) (by rw [hget]; exact hwait)
    (by rw [hget]) rfl rfl
  simp only [hget, v, State.modSlot_modSlot] at hbegins
  exact .step (State.readOrder_browsing item horder hpart hstate hq) hagenda hline (Nat.le_of_succ_le hplaces)
    (.plain hbegins hagenda hline (by simpa using hplaces) (.done _))

end

/-! ## The statements -/

/-- Settles O24: each timer's moment has been reached, so the clock stands, and its step asks nothing of another block. -/
theorem cardTimers : Obligations.CardTimers := by
  intro n s
  refine ⟨fun hc hstate hwait ht => ⟨_, rfl, ?_⟩, fun hc hstate hreq hleft ht => ⟨_, rfl, ?_⟩,
    fun r q p e b hc hstate hq hp he hleft hreq ht => ⟨_, rfl, ?_⟩⟩
  · rw [State.settleEndAt_settled hstate hwait, State.advance_reached ht]
    exact State.perform_still hc (State.settleEnd_reached hstate hwait ht) hc.1 (by simp)
  · rw [State.identifyAt_identifying hstate hreq, State.advance_reached ht]
    exact State.perform_still hc (State.identifyTimedOut_again hstate hreq hleft ht) hc.1 (by simp)
  · have hstep := (State.blockTimedOut_reached hreq ht).trans
      (State.blockFailed_again (Slot.inFlight_reading hstate hq) hp he hleft)
    have ⟨hagenda, hbus⟩ := hc.1
    rw [State.blockAt_block hreq, State.advance_reached ht]
    exact State.perform_still hc hstep ⟨by simpa using hagenda, by simpa using hbus⟩ (by simp)

/-- Settles O25: the answer ends the attempts, and the change to READY is applied next. -/
theorem cardIdentified : Obligations.CardIdentified := by
  rintro n capacity _ s hc hstate hreq hwait rfl hcap
  let v := s.modSlot n fun x => { x with request := none }
  have hget : v.slots.get n = { s.slots.get n with request := none } := State.modSlot_get n _ s
  have hready := State.identified_ready (s := v) (n := n) capacity (by rw [hget]; exact hstate) (by rw [hget]; exact hwait)
  simp only [hget, v, State.modSlot_modSlot] at hready
  have ⟨⟨hagenda, hbus⟩, hline, hplaces⟩ := hc
  refine ⟨_, rfl, ?_⟩
  rw [if_pos (by simp [Slot.awaitsIdentify, hreq])]
  exact State.perform_applies hc
    (.step (State.identifyAnswered_good hstate hreq hcap) hagenda hline (Nat.le_of_succ_le hplaces)
      (.plain hready hagenda hline (by simpa using hplaces) (.done _)))
    (by decide) hbus

/-- Settles O26: what the slot's checks made of the read at its take decides; one that passed joins the queue, and starts. -/
theorem cardReadBegins : Obligations.CardReadBegins := by
  refine ⟨?_, ?_, ?_⟩
  · intro t n e es s hc hpart ht horder hplace hkept hstate hwait hq hlen hsound
    have hverdict : s.readVerdict t n.val 255 (e :: es) = .passed n :=
      State.readVerdict_of_kept hkept (by rw [horder]; exact State.readCheck_passes hstate hwait hlen hsound)
    have hoffered : (!s.handedOn t && s.declinesRead n.val) = false := by
      rcases hplace with h | h
      · simp [h]
      · simp [State.declinesRead_val, Nat.not_le.mpr h]
    rw [← State.accept_slots t s] at hstate hwait hq ⊢
    rw [← State.accept_clock t s]
    have hcalm := State.accept_calm t hc
    refine ⟨_, rfl, ?_⟩
    rw [hoffered, hverdict]
    exact State.taking_perform_applies (a := .readOrder t n 255 (e :: es)) hc ht
      (State.readOrder_applies 255 hcalm horder (by simpa using hpart) hstate hwait hq) (by decide) hcalm.1.2
  · intro slot item es w rest code detail s hc hhanded hread t
    have hfind : s.exch.handed.find? (fun h => h.header.ticket == t) = some w := by simp [hhanded, t]
    have hon : s.handedOn t = true := by simp [State.handedOn, hhanded, t]
    refine ⟨_, rfl, ?_⟩
    rw [hon, State.readVerdict_handed hfind hread, State.taking_of_takes (.inl hon)]
    exact (State.settle_follows ((s.accept t).endTicket t 10 code detail) (State.accept_calm t hc).1).still
  · intro t n item es s hon hplaces
    have hdeclined : (!s.handedOn t && s.declinesRead n.val) = true := by simp [hon, State.declinesRead_val, hplaces]
    exact congrArg Host.Outcome.next (if_pos hdeclined)

/-- Settles O27: the answer's step is a request of the memory mover, whose requests stand behind those it held. -/
theorem blockHandedOn : Obligations.BlockHandedOn := by
  intro n data r q p e b s hc hstate hq hp he hreq hlen
  have hstep := State.blockAnswered_good (Slot.inFlight_reading hstate hq) hp he hreq hlen
  have hfollows := State.perform_follows (a := .cmd (.blockAnswer n data (cardCheck data))) hc hstep hc.1 (Nat.le_refl _)
  refine ⟨_, rfl, ?_⟩
  rw [if_pos (by simp [Slot.awaitsBlock, hreq])]
  exact ⟨hfollows.still, hfollows.requests⟩

end Sys2Proof.Machine
end

section
/-! SUPPORT. EVACUATE with the placement that follows it, and the ends of a push and a pop of the context stack (R74 to R78, R80, R86 to R88, R90,
R94, R95). O28. -/

namespace Sys2Proof.Machine

/-! ## Calm parts, and requests applied in them -/

/-- An outcome takes one of the free places (R178). -/
theorem State.emit_calm {k : Nat} {s : State} (h : s.calm (k + 1)) (p : Payload) (unit order seq : Nat) :
    (s.emit p unit order seq).calm k :=
  ⟨h.1, h.2.1, by rw [State.emit_occupied]; exact Nat.le_trans (by omega) h.2.2⟩

/-- As `Applies.step`, from a calm part to a calm part. -/
theorem State.Applies.calmStep {a : Act} {l made : List Act} {k n : Nat} {s v u : State} (happly : applyAct a s = v.pushAll made)
    (hv : v.calm k) (hrest : State.Applies (made ++ l) v n u) : State.Applies (a :: l) s (n + 1) u :=
  .step happly hv.1.1 hv.2.1 (Nat.le_of_add_right_le hv.2.2) hrest

/-- A request that changes nothing. -/
theorem State.Applies.skip {a : Act} {l : List Act} {k n : Nat} {s u : State} (happly : applyAct a s = s) (hs : s.calm k)
    (hrest : State.Applies l s n u) : State.Applies (a :: l) s (n + 1) u :=
  .calmStep (made := []) happly hs hrest

/-! ## Changes of the scheduler's state for an engine -/

theorem State.modSched_get (e : Fin 2) (f : SchedEngine → SchedEngine) (s : State) : (s.modSched e f).sched.get e = f (s.sched.get e) := by
  simp

/-- A change of an engine's state after another is one change. -/
theorem State.modSched_modSched (e : Fin 2) (f g : SchedEngine → SchedEngine) (s : State) :
    (s.modSched e f).modSched e g = s.modSched e fun x => g (f x) := by
  simp [State.modSched]

/-- A change of an engine's state is known by what it makes of the state as it is. -/
theorem State.modSched_congr {e : Fin 2} {f g : SchedEngine → SchedEngine} {s : State} (h : f (s.sched.get e) = g (s.sched.get e)) :
    s.modSched e f = s.modSched e g := by
  simp only [State.modSched, h]

/-! ## Orders that are neither settled nor placed -/

/-- An order that is not live or is UNRESOLVED is not settled by the quiet test (R21). -/
theorem State.quietTest_unresolved {n seq : Nat} {s : State} (h : ∀ o, s.findOrder n = some o → o.state = .unresolved) :
    s.quietTest n seq = s := by
  cases ho : s.findOrder n with
  | none => simp only [State.quietTest, ho]
  | some o => exact State.quietTest_idle ho (by rw [h o ho]; decide)

/-- An order that is not live or is UNRESOLVED is not placed (R74). -/
theorem State.placeOrder_unresolved {n : Nat} {retry : Bool} {excluded : Option (Fin 2)} {s : State}
    (h : ∀ o, s.findOrder n = some o → o.state = .unresolved) : s.placeOrder n retry excluded = s := by
  cases ho : s.findOrder n with
  | none => simp only [State.placeOrder, ho]
  | some o => simp [State.placeOrder, ho, h o ho, OrderState.takesRuns]

/-! ## Which media kinds need a run (R74) -/

/-- Whether a media kind needs a run is read off the products, the engines, and the order's number and items. -/
theorem State.needsRun_congr {s v : State} {o p : Order} (hnumber : p.number = o.number) (hitems : p.items = o.items)
    (hproducts : v.products = s.products) (hsched : v.sched = s.sched) (hports : v.ports = s.ports) (kind : Nat) :
    v.needsRun p kind = s.needsRun o kind := by
  simp only [State.needsRun, State.hasRun, State.loadedKind, State.mediaOf, hnumber, hitems, hproducts, hsched, hports]

/-- An EXPRESS run joins a queue behind its EXPRESS runs and ahead of the others, a STANDARD one at its end (R76). -/
theorem joinQueue_eq (r : Run) (q : List Run) :
    joinQueue r q = if r.cls = .express then q.filter (·.cls == .express) ++ r :: q.filter (·.cls != .express) else q ++ [r] := by
  cases hr : r.cls <;> simp [joinQueue, hr]

theorem mem_joinQueue {r x : Run} {q : List Run} : x ∈ joinQueue r q ↔ x = r ∨ x ∈ q := by
  rw [joinQueue_eq]
  split
  · by_cases hx : x.cls = .express <;> simp [hx]
    tauto
  · simp [or_comm]

/-- A run that joins a queue is a run of its order for its kind, and those that were stay. -/
theorem State.hasRun_joined {n kind : Nat} {d : Fin 2} {r : Run} {s : State}
    (h : r.order = n ∧ r.kind = kind ∨ s.hasRun n kind = true) :
    (s.modSched d fun x => { x with queue := joinQueue r x.queue }).hasRun n kind = true := by
  have hmem : ∀ e : Fin 2, e ∈ engines := by decide
  simp only [State.hasRun, List.any_eq_true] at h ⊢
  rcases h with ⟨horder, hkind⟩ | ⟨e, -, he⟩
  · refine ⟨d, hmem d, ?_⟩
    have hjoined : (joinQueue r (s.sched.get d).queue).any (fun x => x.order == n && x.kind == kind) = true :=
      List.any_eq_true.mpr ⟨r, mem_joinQueue.mpr (.inl rfl), by simp [horder, hkind]⟩
    rw [State.modSched_get]
    simp [hjoined]
  · refine ⟨e, hmem e, ?_⟩
    by_cases hed : e = d
    · subst hed
      have hjoined : (s.sched.get e).queue.any (fun x => x.order == n && x.kind == kind) = true →
          (joinQueue r (s.sched.get e).queue).any (fun x => x.order == n && x.kind == kind) = true := fun h =>
        have ⟨x, hx, hp⟩ := List.any_eq_true.mp h
        List.any_eq_true.mpr ⟨x, mem_joinQueue.mpr (.inr hx), hp⟩
      rw [State.modSched_get]
      simp only [Bool.or_eq_true] at he ⊢
      exact he.imp_left (Or.imp_left hjoined)
    · rw [State.modSched_sched, Two.get_set_ne _ _ _ _ hed]
      exact he

/-- Once the one kind that needs a run has one, none does. -/
theorem State.needsRun_joined {o : Order} {j : Nat} {d : Fin 2} {r : Run} {s : State} (horder : r.order = o.number)
    (h : s.needsRun o j = decide (j = r.kind)) :
    (s.modSched d fun x => { x with queue := joinQueue r x.queue }).needsRun o j = false := by
  have hjoined := State.hasRun_joined (n := o.number) (kind := j) (d := d) (r := r) (s := s)
  by_cases hj : j = r.kind
  · simp [State.needsRun, hjoined (.inl ⟨horder, hj.symm⟩)]
  · simp only [State.needsRun, hj, decide_false, Bool.and_eq_false_iff, Bool.not_eq_false'] at h ⊢
    exact h.imp_right fun h => hjoined (.inr h)

/-! ## Placement (R74 to R77) -/

section
variable {n kind : Nat} {retry : Bool} {excluded : Option (Fin 2)} {o : Order} {s : State}

/-- The placements of an order of which one media kind needs a run. -/
theorem State.placeOrder_one (ho : s.findOrder n = some o) (htakes : o.state.takesRuns = true) (hkind : kind < 4)
    (hneeds : ∀ j < 4, s.needsRun o j = decide (j = kind)) :
    s.placeOrder n retry excluded = s.pushAll [.placeKind n kind retry excluded, .placeDone n] := by
  have hkinds : [0, 1, 2, 3].filter (fun k => s.needsRun o k) = [kind] := by
    have : [0, 1, 2, 3].filter (fun k => s.needsRun o k) = [0, 1, 2, 3].filter fun k => decide (k = kind) :=
      List.filter_congr fun k hk => hneeds k (by simp at hk; omega)
    rw [this]
    interval_cases kind <;> rfl
  simp only [State.placeOrder, ho, htakes, hkinds]
  rfl

/-- The other engine is chosen when it is a candidate with room (R75). -/
theorem State.chosenEngine_other {d e : Fin 2} (hde : d ≠ e) (hon : ¬ ((s.ports.get d).state = .offline ∨ (s.ports.get d).state = .fault))
    (hmedia : (s.ports.get d).media = some kind) (hroom : (s.sched.get d).queue.length < 8) : s.chosenEngine kind (some e) = some d := by
  have hd : s.isCandidate d kind (some e) = true := by simp_all [State.isCandidate, Ne.symm hde]
  have he : s.isCandidate e kind (some e) = false := by simp [State.isCandidate]
  have hfilter : s.candidates kind (some e) = [d] := by
    unfold State.candidates
    split <;> fin_cases d <;> fin_cases e <;> simp_all
  simp [State.chosenEngine, hfilter, Config.runQueuePlaces, hroom]

/-- With both engines OFFLINE or in FAULT none is a candidate (R75). -/
theorem State.chosenEngine_none (h : ∀ k, (s.ports.get k).state = .offline ∨ (s.ports.get k).state = .fault) :
    s.chosenEngine kind excluded = none := by
  have hno : ∀ k, s.isCandidate k kind excluded = false := fun k => by rcases h k with h | h <;> simp [State.isCandidate, h]
  simp [State.chosenEngine, State.candidates, hno]

/-- A new run begins at the lowest item of its kind (R73), with the copy that is assigned next. -/
theorem State.newRun_eq {d : Fin 2} {i : Nat} {x : Item} (hi : o.items[i]? = some x) (hx : s.mediaOf x.product = kind)
    (hlowest : ∀ j < i, ∀ y, o.items[j]? = some y → s.mediaOf y.product ≠ kind) :
    s.newRun o d kind =
      { order := o.number, engine := d, kind := kind, cls := o.cls, profile := o.profile, finish := o.finish, item := i
        copy := x.assigned } := by
  obtain ⟨hlt, hget⟩ := List.getElem?_eq_some_iff.mp hi
  have hfrom : s.itemFrom o kind 0 = some i := by
    rw [State.itemFrom, List.find?_range_eq_some]
    refine ⟨by simp [hi, hx], List.mem_range.mpr hlt, fun j hj => ?_⟩
    have hjlt : j < o.items.length := Nat.lt_trans hj hlt
    simpa [List.getElem?_eq_getElem hjlt] using hlowest j hj _ (List.getElem?_eq_getElem hjlt)
  simp [State.newRun, hfrom, hi]

/-- A placement on an engine with a print under way: the run joins the queue, and no boundary is there to be woken (R75, R76). -/
theorem State.placeKind_placed {d : Fin 2} (ho : s.findOrder n = some o) (htakes : o.state.takesRuns = true)
    (hneeds : s.needsRun o kind = true) (hchosen : s.chosenEngine kind excluded = some d) (hrecord : (s.ports.get d).record ≠ none) :
    s.placeKind n kind retry excluded =
      (s.modSched d fun x => { x with queue := joinQueue (s.newRun o d kind) x.queue }).emit
        (.printRun .runPlaced kind none 0 0 (s.sched.get d).stack.length) d.val n 0 := by
  have hbusy : (s.ports.get d).atBoundary = false := by simp [Port.atBoundary, Option.isNone_iff_eq_none, hrecord]
  simp [State.placeKind, ho, htakes, hneeds, hchosen, State.emitRun, State.wakeEngine, hbusy]

/-- A placement with no candidate: the order waits for an engine, and a retry reports nothing (R77). -/
theorem State.placeKind_awaits (ho : s.findOrder n = some o) (htakes : o.state.takesRuns = true) (hneeds : s.needsRun o kind = true)
    (hchosen : s.chosenEngine kind excluded = none) :
    let v : State := State.modOrder n (fun o => { o with awaitingEngine := true })
      { s with awaiting := if s.awaiting.contains n then s.awaiting else s.awaiting ++ [n] }
    s.placeKind n kind retry excluded = if retry then v else v.emit (.printRun .noEngine kind none 0 0 0) 0 n 0 := by
  simp only [State.placeKind, ho, htakes, hneeds, hchosen]
  rfl

/-- While a kind needs a run the order goes on waiting for an engine (R77). -/
theorem State.placeDone_needs (ho : s.findOrder n = some o) (hkind : kind < 4) (hneeds : s.needsRun o kind = true) : s.placeDone n = s := by
  have hany : [0, 1, 2, 3].any (fun k => s.needsRun o k) = true :=
    List.any_eq_true.mpr ⟨kind, by simp; omega, hneeds⟩
  simp only [State.placeDone, ho, hany]
  simp

/-- Once no kind needs a run the order waits for an engine no more (R75, R77). -/
theorem State.placeDone_all (ho : s.findOrder n = some o) (htakes : o.state.takesRuns = true) (hnone : ∀ k < 4, s.needsRun o k = false)
    (hawaiting : s.awaiting = []) : s.placeDone n = s.modOrder n fun o => { o with awaitingEngine := false } := by
  have hany : [0, 1, 2, 3].any (fun k => s.needsRun o k) = false :=
    List.any_eq_false.mpr fun k hk => by simp [hnone k (by simp at hk; omega)]
  simp only [State.placeDone, ho, htakes, hany, State.dropAwaiting]
  simp [hawaiting, State.modOrder]

/-- The placements of an order of which one media kind needs a run, in a row. -/
theorem State.Applies.placeOne {j m : Nat} {l : List Act} {v w u : State} (hs : s.calm j) (ho : s.findOrder n = some o)
    (htakes : o.state.takesRuns = true) (hkind : kind < 4) (hneeds : ∀ k < 4, s.needsRun o k = decide (k = kind))
    (hplaced : s.placeKind n kind retry excluded = v) (hv : v.calm 0) (hdone : v.placeDone n = w) (hw : w.calm 0)
    (hrest : State.Applies l w m u) : State.Applies (.place n retry excluded :: l) s (m + 3) u :=
  .calmStep (State.placeOrder_one ho htakes hkind hneeds) hs (.calmStep (made := []) hplaced hv (.calmStep (made := []) hdone hw hrest))

end

/-! ## EVACUATE (R94) -/

/-- A ticket that the part takes finds the engine `e` with one queued run `r`, of the live order `o`, and nothing saved. -/
structure State.ReturnsOne (s : State) (t : Ticket) (e : Fin 2) (r : Run) (o : Order) : Prop where
  admits : s.admits t
  notPrinting : (s.ports.get e).state ≠ .printing
  access : (s.sched.get e).access = .none
  queue : (s.sched.get e).queue = [r]
  stack : (s.sched.get e).stack = []
  order : s.findOrder r.order = some o

/-- The state once an EVACUATE has returned the one run of an engine (R94, log entry 20). -/
def State.runReturned (t : Ticket) (e : Fin 2) (s : State) : State :=
  ((s.accept t).modSched e fun x => { x with queue := [] }).emit (.printRun .runReturned ((s.ports.get e).media.getD 0) none 1 0 0) e.val 0
    t.seq

section
variable {t : Ticket} {e : Fin 2} {r : Run} {o : Order} {s : State}

@[simp] theorem State.runReturned_ports : (s.runReturned t e).ports = s.ports := s.accept_ports t
@[simp] theorem State.runReturned_products : (s.runReturned t e).products = s.products := s.accept_products t
@[simp] theorem State.runReturned_awaiting : (s.runReturned t e).awaiting = s.awaiting := s.accept_awaiting t
@[simp] theorem State.runReturned_sched : (s.runReturned t e).sched = (s.modSched e fun x => { x with queue := [] }).sched := by
  simp only [State.runReturned, State.emit_sched, State.modSched_sched, State.accept_sched]

theorem State.runReturned_findOrder {n : Nat} (h : s.findOrder n = some o) :
    ∃ a, (s.runReturned t e).findOrder n = some { o with lastActivity := a } := State.accept_findOrder t h

theorem State.runReturned_calm {k : Nat} (h : s.calm (k + 1)) : (s.runReturned t e).calm k :=
  State.emit_calm (s := (s.accept t).modSched e fun x => { x with queue := [] }) (State.accept_calm t h) _ _ _ _

/-- EVACUATE of an engine with one queued run and an empty stack. -/
theorem State.evacuate_one (h : s.ReturnsOne t e r o) :
    (s.accept t).evacuate t e.val =
      (s.runReturned t e).pushAll [.quiet r.order 0, .place r.order false (some e), .evacuated t 1] := by
  have hempty : ((s.accept t).modSched e fun x => { x with queue := [], stack := [] }) =
      (s.accept t).modSched e fun x => { x with queue := [] } := State.modSched_congr (by rw [← h.stack, State.accept_sched])
  have hnotPrinting : ((s.ports.get e).state == .printing) = false := beq_eq_false_iff_ne.mpr h.notPrinting
  simp only [State.evacuate, engineOf_val, State.accept_ports, State.accept_sched, hnotPrinting, h.access, h.queue, h.stack, hempty,
    State.loadedKind, State.modSched_ports]
  rfl

/-- An EVACUATE that returns one run, of an order that is not CANCELLING, and is left with the order's placement and its own end. -/
theorem State.evacuate_still {j n : Nat} {u : State} (hs : s.calm (j + 1)) (h : s.ReturnsOne t e r o) (hstate : o.state ≠ .cancelling)
    (hrest : State.Applies [.place r.order false (some e), .evacuated t 1] (s.runReturned t e) n u) (hn : n + 2 ≤ 4096)
    (hb : u.exch.busMaster = true) :
    (s.taking t (State.perform (.cmd (.engineControlEvacuate t e.val)))).still = u.still := by
  have hreturned : (s.runReturned t e).calm j := State.runReturned_calm hs
  obtain ⟨a, ha⟩ := State.runReturned_findOrder (t := t) (e := e) h.order
  exact State.taking_perform_applies hs h.admits.1
    (.calmStep (made := [.quiet r.order 0, .place r.order false (some e), .evacuated t 1])
      ((State.forLiveOrder_accept h.admits.2 13 _).trans (State.evacuate_one h)) hreturned
      (.skip (a := .quiet r.order 0) (State.quietTest_idle ha hstate) hreturned hrest)) hn hb

end

/-- The end of an EVACUATE, with the awaiting list empty (R77, R94). -/
theorem State.Applies.evacuated {t : Ticket} {count : Nat} {s : State} (hs : s.calm 0) (hawaiting : s.awaiting = []) :
    State.Applies [.evacuated t count] s 2 (s.endTicket t 13 .ok count) :=
  .calmStep (made := [.retryAwaiting]) (v := s.endTicket t 13 .ok count) rfl hs
    (.skip (a := .retryAwaiting) (State.retryAwaiting_none (s := s.endTicket t 13 .ok count) hawaiting) hs (.done _))

/-- The end of an EVACUATE with one order that stands on the awaiting list, for which there is no candidate: the retry changes nothing (R77). -/
theorem State.Applies.evacuated_awaits {t : Ticket} {count n kind : Nat} {o : Order} {s : State} (hs : s.calm 0)
    (hawaiting : s.awaiting = [n]) (ho : s.findOrder n = some o) (htakes : o.state.takesRuns = true) (hkind : kind < 4)
    (hneeds : ∀ k < 4, s.needsRun o k = decide (k = kind)) (hchosen : ∀ excluded, s.chosenEngine kind excluded = none)
    (hmarked : (s.modOrder n fun o => { o with awaitingEngine := true }) = s) :
    State.Applies [.evacuated t count] s 5 (s.endTicket t 13 .ok count) := by
  let v := s.endTicket t 13 .ok count
  have hneedsKind : v.needsRun o kind = true := by rw [show v.needsRun o kind = s.needsRun o kind from rfl, hneeds kind hkind]; simp
  have hsame : (State.modOrder n (fun o => { o with awaitingEngine := true })
      { v with awaiting := if v.awaiting.contains n then v.awaiting else v.awaiting ++ [n] } : State) = v := by
    have hcontains : v.awaiting.contains n = true := by simp [v, hawaiting]
    rw [hcontains]
    exact congrArg (State.endTicket t 13 .ok count) hmarked
  have hplaced : v.placeKind n kind true none = v :=
    (State.placeKind_awaits (retry := true) (excluded := none) (s := v) ho htakes hneedsKind (hchosen none)).trans hsame
  have hretry : v.retryAwaiting = v.pushAll [.place n true none] := by
    simp only [State.retryAwaiting, show v.awaiting = [n] from hawaiting]
    rfl
  exact .calmStep (made := [.retryAwaiting]) (v := v) rfl hs (.calmStep (a := .retryAwaiting) hretry hs
    (.placeOne (s := v) hs ho htakes hkind hneeds hplaced hs (State.placeDone_needs (s := v) ho hkind hneedsKind) hs (.done _)))

section
variable {t : Ticket} {e : Fin 2} {kind : Nat} {o : Order} {n : Nat} {s : State}

/-- The order of a returned run placed on the other engine, whose print goes on, and the end of the EVACUATE (R74 to R76, R94). -/
theorem State.Applies.placeReturned {d : Fin 2} {i : Nat} {x : Item} (hs : s.calm 1) (hawaiting : s.awaiting = []) (hde : d ≠ e)
    (ho : s.findOrder n = some o) (htakes : o.state.takesRuns = true) (hkind : kind < 4)
    (hneeds : ∀ k < 4, s.needsRun o k = decide (k = kind)) (hprints : (s.ports.get d).state = .printing)
    (hrecord : (s.ports.get d).record ≠ none) (hmedia : (s.ports.get d).media = some kind) (hroom : (s.sched.get d).queue.length < 8)
    (hi : o.items[i]? = some x) (hx : s.mediaOf x.product = kind)
    (hlowest : ∀ j < i, ∀ y, o.items[j]? = some y → s.mediaOf y.product ≠ kind) :
    let new : Run :=
      { order := n, engine := d, kind := kind, cls := o.cls, profile := o.profile, finish := o.finish, item := i, copy := x.assigned }
    State.Applies [.place n false (some e), .evacuated t 1] s 5
      ((((s.modSched d fun x => { x with queue := joinQueue new x.queue }).emit
        (.printRun .runPlaced kind none 0 0 (s.sched.get d).stack.length) d.val n 0).modOrder n fun o =>
        { o with awaitingEngine := false }).endTicket t 13 .ok 1) := by
  intro new
  have hnumber := State.findOrder_number ho
  let v := (s.modSched d fun x => { x with queue := joinQueue new x.queue }).emit
    (.printRun .runPlaced kind none 0 0 (s.sched.get d).stack.length) d.val n 0
  have hv : v.calm 0 := State.emit_calm (s := s.modSched d fun x => { x with queue := joinQueue new x.queue }) hs _ _ _ _
  have hchosen := State.chosenEngine_other (kind := kind) (e := e) hde (by rw [hprints]; decide) hmedia hroom
  have hplaced := State.placeKind_placed (retry := false) ho htakes (by simp [hneeds kind hkind]) hchosen hrecord
  rw [State.newRun_eq hi hx hlowest, hnumber] at hplaced
  have hnone : ∀ k < 4, v.needsRun o k = false := fun k hk =>
    State.needsRun_joined (r := new) (s := s) hnumber.symm (hneeds k hk)
  exact .placeOne hs ho htakes hkind hneeds hplaced hv (State.placeDone_all (s := v) ho htakes hnone hawaiting) hv
    (.evacuated (s := v.modOrder n fun o => { o with awaitingEngine := false }) hv hawaiting)

/-- The order of a returned run waits for an engine, with no candidate, and the end of the EVACUATE (R75, R77, R94). -/
theorem State.Applies.awaitReturned (hs : s.calm 1) (hawaiting : s.awaiting = []) (ho : s.findOrder n = some o)
    (htakes : o.state.takesRuns = true) (hkind : kind < 4) (hneeds : ∀ k < 4, s.needsRun o k = decide (k = kind))
    (hoff : ∀ k, (s.ports.get k).state = .offline ∨ (s.ports.get k).state = .fault) :
    State.Applies [.place n false (some e), .evacuated t 1] s 8
      ((((({ s with awaiting := [n] } : State).modOrder n fun o => { o with awaitingEngine := true }).emit
        (.printRun .noEngine kind none 0 0 0) 0 n 0)).endTicket t 13 .ok 1) := by
  let f (o : Order) : Order := { o with awaitingEngine := true }
  let v := (({ s with awaiting := [n] } : State).modOrder n f).emit (.printRun .noEngine kind none 0 0 0) 0 n 0
  have hv : v.calm 0 := State.emit_calm (s := ({ s with awaiting := [n] } : State).modOrder n f) hs _ _ _ _
  have hplaced := State.placeKind_awaits (kind := kind) (retry := false) (excluded := some e) ho htakes (by simp [hneeds kind hkind])
    (State.chosenEngine_none hoff)
  simp only [hawaiting] at hplaced
  have hfind : v.findOrder n = some (f o) := State.findOrder_modOrder_self (s := s) f (fun _ => rfl) ho
  have hneedsAfter : ∀ k < 4, v.needsRun (f o) k = decide (k = kind) := fun k hk =>
    (State.needsRun_congr (s := s) (o := o) rfl rfl rfl rfl rfl k).trans (hneeds k hk)
  have hmarked : v.modOrder n f = v :=
    congrArg (State.emit (.printRun .noEngine kind none 0 0 0) 0 n 0)
      (State.modOrder_modOrder ({ s with awaiting := [n] } : State) n f f fun _ => rfl)
  exact .placeOne hs ho htakes hkind hneeds hplaced hv
    (State.placeDone_needs (s := v) hfind hkind (by simp [hneedsAfter kind hkind])) hv
    (.evacuated_awaits hv rfl hfind htakes hkind hneedsAfter (fun _ => State.chosenEngine_none hoff) hmarked)

end

/-! ## What becomes of the order of a run returned -/

section
variable {t : Ticket} {e : Fin 2} {r : Run} {o : Order} {s : State}

/-- The order of a run returned that is UNRESOLVED is left as it is. -/
theorem State.evacuate_unresolved (hs : s.calm 1) (h : s.ReturnsOne t e r o) (hawaiting : s.awaiting = []) (hstate : o.state = .unresolved) :
    (s.taking t (State.perform (.cmd (.engineControlEvacuate t e.val)))).still = ((s.runReturned t e).endTicket t 13 .ok 1).still := by
  have hreturned : (s.runReturned t e).calm 0 := State.runReturned_calm hs
  obtain ⟨a, ha⟩ := State.runReturned_findOrder (t := t) (e := e) h.order
  have hplace : (s.runReturned t e).placeOrder r.order false (some e) = s.runReturned t e :=
    State.placeOrder_unresolved fun p hp => by
      obtain rfl := Option.some.inj (ha.symm.trans hp)
      exact hstate
  exact State.evacuate_still (j := 0) hs h (by rw [hstate]; decide)
    (.skip (a := .place r.order false (some e)) hplace hreturned
      (.evacuated hreturned (State.runReturned_awaiting.trans hawaiting))) (by decide) hreturned.1.2

/-- Which kinds need a run once the run is returned. -/
theorem State.needsRun_returned {a k : Nat} :
    (s.runReturned t e).needsRun { o with lastActivity := a } k = (s.modSched e fun x => { x with queue := [] }).needsRun o k :=
  State.needsRun_congr (s := s.modSched e fun x => { x with queue := [] }) (o := o) rfl rfl (State.runReturned_products (s := s))
    State.runReturned_sched (State.runReturned_ports (s := s)) k

/-- The order of a run returned is placed on the other engine, whose print goes on (R74 to R76). -/
theorem State.evacuate_placed {d : Fin 2} {i : Nat} {x : Item} (hs : s.calm 2) (h : s.ReturnsOne t e r o) (hawaiting : s.awaiting = [])
    (hde : d ≠ e) (htakes : o.state.takesRuns = true) (hkind : r.kind < 4)
    (hneeds : ∀ k < 4, (s.modSched e fun x => { x with queue := [] }).needsRun o k = decide (k = r.kind))
    (hprints : (s.ports.get d).state = .printing) (hrecord : (s.ports.get d).record ≠ none) (hmedia : (s.ports.get d).media = some r.kind)
    (hroom : (s.sched.get d).queue.length < 8) (hi : o.items[i]? = some x) (hx : s.mediaOf x.product = r.kind)
    (hlowest : ∀ j < i, ∀ y, o.items[j]? = some y → s.mediaOf y.product ≠ r.kind) :
    let new : Run :=
      { order := r.order, engine := d, kind := r.kind, cls := o.cls, profile := o.profile, finish := o.finish, item := i, copy := x.assigned }
    (s.taking t (State.perform (.cmd (.engineControlEvacuate t e.val)))).still =
      (((((s.runReturned t e).modSched d fun x => { x with queue := joinQueue new x.queue }).emit
        (.printRun .runPlaced r.kind none 0 0 (s.sched.get d).stack.length) d.val r.order 0).modOrder r.order fun o =>
        { o with awaitingEngine := false }).endTicket t 13 .ok 1).still := by
  have hreturned : (s.runReturned t e).calm 1 := State.runReturned_calm hs
  obtain ⟨a, ha⟩ := State.runReturned_findOrder (t := t) (e := e) h.order
  have hother : (s.runReturned t e).sched.get d = s.sched.get d := by
    rw [State.runReturned_sched, State.modSched_sched, Two.get_set_ne _ _ _ _ hde]
  have hmediaOf : ∀ p, (s.runReturned t e).mediaOf p = s.mediaOf p := fun p => by rw [State.mediaOf, State.mediaOf, State.runReturned_products]
  have hplaced := State.Applies.placeReturned (t := t) (e := e) (d := d) (i := i) (x := x) hreturned (by simpa using hawaiting) hde ha htakes
    hkind (fun k hk => State.needsRun_returned.trans (hneeds k hk)) (by simpa using hprints) (by simpa using hrecord) (by simpa using hmedia)
    (by rw [hother]; exact hroom) hi (by rw [hmediaOf]; exact hx) (by simpa only [hmediaOf] using hlowest)
  rw [hother] at hplaced
  have hnotCancelling : o.state ≠ .cancelling := fun hc => by simp [hc, OrderState.takesRuns] at htakes
  exact State.evacuate_still hs h hnotCancelling hplaced (by decide) hreturned.1.2

/-- The order of a run returned waits for an engine, with no candidate (R75, R77). -/
theorem State.evacuate_awaits (hs : s.calm 2) (h : s.ReturnsOne t e r o) (hawaiting : s.awaiting = [])
    (htakes : o.state.takesRuns = true) (hkind : r.kind < 4)
    (hneeds : ∀ k < 4, (s.modSched e fun x => { x with queue := [] }).needsRun o k = decide (k = r.kind))
    (hoff : ∀ k, (s.ports.get k).state = .offline ∨ (s.ports.get k).state = .fault) :
    (s.taking t (State.perform (.cmd (.engineControlEvacuate t e.val)))).still =
      ((((({ s.runReturned t e with awaiting := [r.order] } : State).modOrder r.order fun o => { o with awaitingEngine := true }).emit
        (.printRun .noEngine r.kind none 0 0 0) 0 r.order 0)).endTicket t 13 .ok 1).still := by
  have hreturned : (s.runReturned t e).calm 1 := State.runReturned_calm hs
  obtain ⟨a, ha⟩ := State.runReturned_findOrder (t := t) (e := e) h.order
  have hawaits := State.Applies.awaitReturned (t := t) (e := e) hreturned (by simpa using hawaiting) ha htakes hkind
    (fun k hk => State.needsRun_returned.trans (hneeds k hk)) (by simpa using hoff)
  have hnotCancelling : o.state ≠ .cancelling := fun hc => by simp [hc, OrderState.takesRuns] at htakes
  exact State.evacuate_still hs h hnotCancelling hawaits (by decide) hreturned.1.2

end

/-! ## The stack directory (R87) -/

/-- With no void entry nothing is discarded. -/
theorem State.discardVoid_none {e : Fin 2} {s : State} (h : ∀ y ∈ (s.sched.get e).stack, y.void = false) : s.discardVoid e = s := by
  have hgone : (s.sched.get e).stack.reverse.takeWhile DirEntry.void = [] := by
    cases hr : (s.sched.get e).stack.reverse with
    | nil => rfl
    | cons y l => simp [h y (List.mem_reverse.mp (hr ▸ List.mem_cons_self))]
  simp [State.discardVoid, hgone]

theorem DirEntry.none_void_snoc {l : List DirEntry} {x : DirEntry} (hx : x.void = false) (hl : ∀ y ∈ l, y.void = false) :
    ∀ y ∈ l ++ [x], y.void = false := by
  simpa [or_imp, forall_and, hx] using hl

/-! ## The end of a burst of the scheduler (R193) -/

/-- The last burst of a frame's write tells the scheduler that it was acknowledged. -/
theorem State.finishBurst_push {d : List Byte} {e : Fin 2} {g : Grant} {q : Request} {s : State} (hl : s.lastBurst g q)
    (htag : q.tag = .push e) : s.finishBurst (.done d) = (s.laneFreed g.place).pushAll [.pushWritten e true] := by
  obtain ⟨hgrant, hhead, hlast⟩ := hl
  simp only [State.finishBurst, hgrant, hhead, htag, if_neg (Nat.not_lt.mpr hlast)]
  rfl

/-- A burst that ends in error ends its client's request. -/
theorem State.finishBurst_failed {g : Grant} {q : Request} {s : State} (hl : s.lastBurst g q) :
    s.finishBurst .failed = (s.laneFreed g.place).clientEnd q.tag false [] := by
  obtain ⟨hgrant, hhead, -⟩ := hl
  simp only [State.finishBurst, hgrant, hhead]
  rfl

/-- What the end of a burst asks for, in a row. -/
theorem State.burstEnd_applies {result : BurstResult} {a : Act} {j n : Nat} {s v u : State} (hend : s.finishBurst result = v.pushAll [a])
    (hv : v.calm j) (h : State.Applies [a] v n u) (hn : n ≤ 4096) (hb : u.exch.busMaster = true) :
    State.Follows u ((s.finishBurst result).settle) := by
  have hfollows := h.drain Config.fuel [⟨[], a⟩] hn hv.1.1 hv.2.1 hb rfl
  have hpush : v.pushAll [a] = { v with agenda := [⟨[], a⟩] } := by rw [State.pushAll_eq, hv.1.1]; rfl
  rw [hend, hpush]
  exact hfollows

/-! ## The end of a push (R86) -/

section
variable {e : Fin 2} {pos : Nat} {a : Run} {why : SavedAs} {l : List DirEntry} {x : DirEntry} {s : State}

/-- A frame that is written: the event is that of the entry, nothing is held any more, and a choice follows. -/
theorem State.pushDone_saved (hending : a.ending = false) (hstack : (s.sched.get e).stack = l ++ [x]) (hpos : pos = l.length)
    (hvoid : ∀ y ∈ l ++ [x], y.void = false) :
    s.pushDone e pos a why =
      ((s.modSched e SchedEngine.unheld).emit
        (.printRun (if x.savedAs = .parked then .runParked else .runPushed) a.kind none 0 0 (pos + 1)) e.val a.order 0).pushAll
        [.choose e] := by
  let p : Payload := .printRun (if x.savedAs = .parked then .runParked else .runPushed) a.kind none 0 0 (pos + 1)
  let v := (s.modSched e SchedEngine.unheld).emit p e.val a.order 0
  change _ = v.pushAll [.choose e]
  have hentry : (s.sched.get e).stack[pos]? = some x := by simp [hstack, hpos]
  have hemit : s.emitRun e (if x.savedAs == .parked then .runParked else .runPushed) a.kind none 0 0 a.order = s.emit p e.val a.order 0 := by
    simp [State.emitRun, hstack, hpos, p]
  have hdiscard : v.discardVoid e = v := State.discardVoid_none (s := v) (by simpa [v, hstack] using hvoid)
  simp only [State.pushDone, hentry, hemit, hending]
  exact congrArg (State.push (.choose e)) hdiscard

/-- A frame that is not written leaves the run BLOCKED in its slot, here with nothing held meanwhile. -/
theorem State.pushFailed_parked (hending : a.ending = false) (hstack : (s.sched.get e).stack = l ++ [x]) (hpos : pos = l.length)
    (hvoid : ∀ y ∈ l, y.void = false) (hawaited : x.awaited ≠ none) (hdecision : (s.sched.get e).heldDecision = false)
    (htest : (s.sched.get e).heldTest = false) (harrival : (s.sched.get e).heldArrival = false) :
    s.pushFailed e pos a .parked =
      ((s.modSched e fun y => { y with stack := l, active := some { a with awaited := x.awaited } }).emit
        (.printRun .pushFailed a.kind none 0 0 pos) e.val a.order 0).pushAll [.portBlocked e] := by
  let f (y : SchedEngine) : SchedEngine := { y with stack := l, active := some { a with awaited := x.awaited } }
  let v := (s.modSched e f).emit (.printRun .pushFailed a.kind none 0 0 pos) e.val a.order 0
  change _ = v.pushAll [.portBlocked e]
  have hchanges : (s.modSched e fun y =>
      { y with stack := y.stack.take pos, active := some { a with awaited := x.awaited }
               heldDecision := false, heldTest := false, heldArrival := false }) = s.modSched e f :=
    State.modSched_congr (by simp [f, hstack, hpos, hdecision, htest, harrival])
  have hemit : (s.modSched e f).emitRun e .pushFailed a.kind none 0 0 a.order = v := by
    simp only [State.emitRun, State.modSched_get, f, ← hpos, v]
  have hdiscard : v.discardVoid e = v := State.discardVoid_none (s := v) (by simpa [v, f] using hvoid)
  have hentry : (s.sched.get e).stack[pos]? = some x := by simp [hstack, hpos]
  simp only [State.pushFailed, SchedEngine.unheld, hentry]
  rw [hchanges, hemit, hdiscard]
  simp only [hending, hdecision, htest, harrival, Option.isNone_eq_false_iff.mpr (Option.isSome_iff_ne_none.mpr hawaited)]
  rfl

/-- With no run queued the top entry of the stack is popped (R80). -/
theorem State.choose_pops (hrunning : s.exch.part = .running) (hrecord : (s.ports.get e).record = none)
    (hoffered : (s.ports.get e).offered = true) (haccess : (s.sched.get e).access = .none) (hqueue : (s.sched.get e).queue = [])
    (hactive : (s.sched.get e).active = none) (hstack : (s.sched.get e).stack = l ++ [x]) (hvoid : ∀ y ∈ l ++ [x], y.void = false) :
    s.choose e =
      (s.modSched e fun y => { y with access := .pop l.length }).request (.pop e) (s.exchBase + 33792 + (3 * e.val + l.length) * 64) 64
        none := by
  have hdecides : s.canDecide e = true := by simp [State.canDecide, Port.atBoundary, hrunning, hrecord, hoffered, haccess]
  have hdiscard : s.discardVoid e = s := State.discardVoid_none (by rw [hstack]; exact hvoid)
  simp [State.choose, hdiscard, hdecides, hactive, hqueue, hstack, State.startPop, State.frameAddress]

/-- A decision that ends with the engine BLOCKED, where it was so before: the boundary is left without an outcome (R117, R119). -/
theorem State.portRests_blocked (hblocked : (s.ports.get e).state = .blocked) (hrecord : (s.ports.get e).record = none) :
    s.portRests e .blocked = s.modPort e fun p => { p with offered := false, testCause := none, waitingPrint := none } := by
  have hboundary : (s.ports.get e).atBoundary = true := by simp [Port.atBoundary, hblocked, hrecord]
  simp only [State.portRests, hboundary, hblocked]
  rfl

end

/-! ## A decision while the part is stopping (R78, R95) -/

section
variable {e : Fin 2} {s : State}

/-- Out of RUNNING no decision is made. -/
theorem State.canDecide_stopping (h : s.exch.part = .stopping) : s.canDecide e = false := by simp [State.canDecide, h]

/-- A decision wanted of an IDLE engine with no print waiting, which cannot be made now, is held until the part runs again. -/
theorem State.deferDecision_idle (hidle : (s.ports.get e).state = .idle) (hrecord : (s.ports.get e).record = none)
    (hwaiting : (s.ports.get e).waitingPrint = none) (haccess : (s.sched.get e).access = .none) :
    s.deferDecision e = s.modSched e fun y => { y with heldDecision := true } := by
  have hholds : s.mayHold e = true := by simp [State.mayHold, Port.atBoundary, hidle, hrecord, hwaiting]
  have hkeeps : s.holdOffer e = s := by simp [State.holdOffer, hidle]
  simp only [State.deferDecision, hholds, haccess, hkeeps]
  rfl

end

/-! ## The end of a pop (R87, R88) -/

/-- The state once the top entry of a directory has left it at the end of a pop. -/
def State.popped (e : Fin 2) (l : List DirEntry) (s : State) : State :=
  s.modSched e fun y => { y.unheld with access := .none, stack := l }

section
variable {e : Fin 2} {pos : Nat} {l : List DirEntry} {x : DirEntry} {ok : Bool} {bytes : List Byte} {s : State}

/-- A frame read: its run is restored or lost. -/
theorem State.popRead_eq (haccess : (s.sched.get e).access = .pop pos) (hstack : (s.sched.get e).stack = l ++ [x]) (hx : x.void = false) :
    let r := runOfFrame e (frameOf bytes)
    s.popRead e ok bytes =
      if ok = true ∧ framePasses (frameOf bytes) x = true then
        ((((s.popped e l).modSched e fun y => { y with active := some r }).emitRun e .runResumed r.kind none 0 0 r.order).discardVoid e).push
          (if (s.sched.get e).heldDecision || (s.sched.get e).heldArrival then .decide e else .hand e)
      else (s.popped e l).loseRun e x (if ok then .check else .memory) := by
  have hpopped : (s.modSched e fun y => { y.unheld with access := .none, stack := y.stack.dropLast }) = s.popped e l :=
    State.modSched_congr (by simp [hstack])
  simp only [State.popRead, haccess, hstack, List.getLast?_concat, hpopped, hx]
  cases ok <;> cases framePasses (frameOf bytes) x <;> simp

/-- The check of a frame (R85, R87). -/
theorem framePasses_iff (w : List Nat) (x : DirEntry) :
    framePasses w x = true ↔ w.sum % 65536 = 65535 ∧ w.getD 31 0 = x.check ∧ w.getD 0 0 = x.order := by
  simp [framePasses, and_assoc]

/-- A run lost, with its order's tests and placement and the choice of the next run. -/
theorem State.loseRun_eq {cause : RunCause} (hreprint : x.reprintItem = none) (hvoid : ∀ y ∈ (s.sched.get e).stack, y.void = false) :
    s.loseRun e x cause =
      (s.emit (.printRun .runLost ((s.ports.get e).media.getD 0) (some cause) 1 0 (s.sched.get e).stack.length) e.val x.order 0).pushAll
        [.quiet x.order 0, .place x.order false none, .retryAwaiting, .choose e] := by
  let v := s.emit (.printRun .runLost ((s.ports.get e).media.getD 0) (some cause) 1 0 (s.sched.get e).stack.length) e.val x.order 0
  have hdiscard : v.discardVoid e = v := State.discardVoid_none (s := v) hvoid
  simp only [State.loseRun, hreprint]
  exact congrArg (fun w : State => (w.push (.quiet x.order 0)).pushAll [.place x.order false none, .retryAwaiting, .choose e]) hdiscard

end

/-! ## Pushes and pops with what follows them -/

section
variable {e : Fin 2} {pos : Nat} {a : Run} {why : SavedAs} {l : List DirEntry} {x : DirEntry} {s : State}

/-- A frame written, and the pop of the same entry with no run queued (R80, R86). -/
theorem State.Applies.pushWritten (hs : s.calm 1) (haccess : (s.sched.get e).access = .push pos a why) (hending : a.ending = false)
    (hstack : (s.sched.get e).stack = l ++ [x]) (hpos : pos = l.length) (hvoid : ∀ y ∈ l ++ [x], y.void = false)
    (hrunning : s.exch.part = .running) (hrecord : (s.ports.get e).record = none) (hoffered : (s.ports.get e).offered = true)
    (hqueue : (s.sched.get e).queue = []) (hactive : (s.sched.get e).active = none) :
    State.Applies [.pushWritten e true] s 2
      (((s.modSched e fun y => { y with access := .pop pos, heldDecision := false, heldTest := false, heldArrival := false }).emit
        (.printRun (if x.savedAs = .parked then .runParked else .runPushed) a.kind none 0 0 (pos + 1)) e.val a.order 0).request
        (.pop e) (s.exchBase + 33792 + (3 * e.val + pos) * 64) 64 none) := by
  subst hpos
  let freed := s.modSched e fun y => { y with access := .none }
  let v := (freed.modSched e SchedEngine.unheld).emit
    (.printRun (if x.savedAs = .parked then .runParked else .runPushed) a.kind none 0 0 (l.length + 1)) e.val a.order 0
  have hget : v.sched.get e = { (s.sched.get e).unheld with access := .none } := by simp [v, freed]; rfl
  have hv : v.calm 0 := State.emit_calm (s := freed.modSched e SchedEngine.unheld) hs _ _ _ _
  have hdone : s.pushWritten e true = v.pushAll [.choose e] := by
    simp only [State.pushWritten, haccess]
    exact State.pushDone_saved hending (s := freed) (by simpa [freed] using hstack) rfl hvoid
  have hpops := State.choose_pops (s := v) (e := e) hrunning hrecord hoffered (by rw [hget]) (by rw [hget]; exact hqueue)
    (by rw [hget]; exact hactive) (by rw [hget]; exact hstack) hvoid
  have hchanges : (freed.modSched e SchedEngine.unheld).modSched e (fun y => { y with access := .pop l.length }) =
      s.modSched e fun y => { y with access := .pop l.length, heldDecision := false, heldTest := false, heldArrival := false } := by
    simp only [freed, State.modSched_modSched]
    rfl
  rw [← hchanges]
  exact .calmStep hdone hv (.calmStep (made := []) hpops hv (.done _))

/-- A frame not written, with the run left BLOCKED at its boundary (R86, R90). -/
theorem State.Applies.pushFailed (hs : s.calm 1) (haccess : (s.sched.get e).access = .push pos a .parked) (hending : a.ending = false)
    (hstack : (s.sched.get e).stack = l ++ [x]) (hpos : pos = l.length) (hvoid : ∀ y ∈ l, y.void = false) (hawaited : x.awaited ≠ none)
    (hdecision : (s.sched.get e).heldDecision = false) (htest : (s.sched.get e).heldTest = false)
    (harrival : (s.sched.get e).heldArrival = false) (hblocked : (s.ports.get e).state = .blocked)
    (hrecord : (s.ports.get e).record = none) :
    State.Applies [.pushWritten e false] s 2
      (((s.modSched e fun y => { y with access := .none, stack := l, active := some { a with awaited := x.awaited } }).emit
        (.printRun .pushFailed a.kind none 0 0 pos) e.val a.order 0).modPort e fun p =>
        { p with offered := false, testCause := none, waitingPrint := none }) := by
  let freed := s.modSched e fun y => { y with access := .none }
  let v := (s.modSched e fun y => { y with access := .none, stack := l, active := some { a with awaited := x.awaited } }).emit
    (.printRun .pushFailed a.kind none 0 0 pos) e.val a.order 0
  have hget : freed.sched.get e = { s.sched.get e with access := .none } := s.modSched_get e _
  have hv : v.calm 0 := State.emit_calm
    (s := s.modSched e fun y => { y with access := .none, stack := l, active := some { a with awaited := x.awaited } }) hs _ _ _ _
  have hfailed : s.pushWritten e false = v.pushAll [.portBlocked e] := by
    have hparked := State.pushFailed_parked (s := freed) (e := e) hending (by rw [hget]; exact hstack) hpos hvoid hawaited
      (by rw [hget]; exact hdecision) (by rw [hget]; exact htest) (by rw [hget]; exact harrival)
    simp only [freed, State.modSched_modSched] at hparked
    simp only [State.pushWritten, haccess]
    exact hparked
  exact .calmStep hfailed hv (.calmStep (made := []) (State.portRests_blocked (s := v) hblocked hrecord) hv (.done _))

end

section
variable {e : Fin 2} {pos : Nat} {l : List DirEntry} {x : DirEntry} {ok : Bool} {bytes : List Byte} {s : State}

/-- A frame that passes the check, read while the part is stopping: its run is the active one, and the decision is held (R78, R87). -/
theorem State.Applies.popRestored (hs : s.calm 1) (haccess : (s.sched.get e).access = .pop pos) (hstack : (s.sched.get e).stack = l ++ [x])
    (hx : x.void = false) (hvoid : ∀ y ∈ l, y.void = false) (hstopping : s.exch.part = .stopping) (hidle : (s.ports.get e).state = .idle)
    (hrecord : (s.ports.get e).record = none) (hwaiting : (s.ports.get e).waitingPrint = none)
    (hpasses : framePasses (frameOf bytes) x = true) :
    let r := runOfFrame e (frameOf bytes)
    State.Applies [.popRead e true bytes] s 2
      (((s.modSched e fun y =>
        { y with access := .none, heldDecision := true, heldTest := false, heldArrival := false, stack := l }).modSched e fun y =>
        { y with active := some r }).emit
        (.printRun .runResumed r.kind none 0 0 l.length) e.val r.order 0) := by
  intro r
  let restored := (s.popped e l).modSched e fun y => { y with active := some r }
  let v := restored.emit (.printRun .runResumed r.kind none 0 0 l.length) e.val r.order 0
  have hget : v.sched.get e = { (s.sched.get e).unheld with access := .none, stack := l, active := some r } := by
    simp [v, restored, State.popped]
  have hv : v.calm 0 := State.emit_calm (s := restored) hs _ _ _ _
  have hemit : restored.emitRun e .runResumed r.kind none 0 0 r.order = v := by
    simp only [State.emitRun, show restored.sched.get e = v.sched.get e from rfl, hget, v]
  have hread : s.popRead e true bytes =
      v.pushAll [if (s.sched.get e).heldDecision || (s.sched.get e).heldArrival then .decide e else .hand e] := by
    rw [State.popRead_eq haccess hstack hx, if_pos ⟨rfl, hpasses⟩, hemit, State.discardVoid_none (by rw [hget]; exact hvoid)]
    rfl
  have hdefer := State.deferDecision_idle (s := v) hidle hrecord hwaiting (by rw [hget])
  have hcannot : v.canDecide e = false := State.canDecide_stopping hstopping
  have hheld : applyAct (if (s.sched.get e).heldDecision || (s.sched.get e).heldArrival then .decide e else .hand e) v =
      v.modSched e fun y => { y with heldDecision := true } := by
    rw [← hdefer]
    split <;> simp [applyAct, State.decision, State.handPrint, hcannot]
  have hchanges : restored.modSched e (fun y => { y with heldDecision := true }) =
      (s.modSched e fun y => { y with access := .none, heldDecision := true, heldTest := false, heldArrival := false, stack := l }).modSched e
        fun y => { y with active := some r } := by
    simp only [restored, State.popped, State.modSched_modSched]
    rfl
  rw [← hchanges]
  exact .calmStep hread hv (.calmStep (made := []) hheld hv (.done _))

/-- A frame that fails the check or is not read, while the part is stopping: the run is lost, its order, not live or UNRESOLVED, is neither settled
nor placed, and the choice of the next run is held (R78, R88). -/
theorem State.Applies.popLost (hs : s.calm 1) (haccess : (s.sched.get e).access = .pop pos) (hstack : (s.sched.get e).stack = l ++ [x])
    (hx : x.void = false) (hvoid : ∀ y ∈ l, y.void = false) (hreprint : x.reprintItem = none) (hstopping : s.exch.part = .stopping)
    (hidle : (s.ports.get e).state = .idle) (hrecord : (s.ports.get e).record = none) (hwaiting : (s.ports.get e).waitingPrint = none)
    (hawaiting : s.awaiting = []) (horder : ∀ o, s.findOrder x.order = some o → o.state = .unresolved)
    (hlost : ¬ (ok = true ∧ framePasses (frameOf bytes) x = true)) :
    State.Applies [.popRead e ok bytes] s 5
      ((s.modSched e fun y => { y with access := .none, heldDecision := true, heldTest := false, heldArrival := false, stack := l }).emit
        (.printRun .runLost ((s.ports.get e).media.getD 0) (some (if ok then .check else .memory)) 1 0 l.length) e.val x.order 0) := by
  have hget : (s.popped e l).sched.get e = { (s.sched.get e).unheld with access := .none, stack := l } := s.modSched_get e _
  let v := (s.popped e l).emit
    (.printRun .runLost ((s.ports.get e).media.getD 0) (some (if ok then .check else .memory)) 1 0 l.length) e.val x.order 0
  have hv : v.calm 0 := State.emit_calm (s := s.popped e l) hs _ _ _ _
  have hread : s.popRead e ok bytes = v.pushAll [.quiet x.order 0, .place x.order false none, .retryAwaiting, .choose e] := by
    rw [State.popRead_eq haccess hstack hx, if_neg hlost, State.loseRun_eq hreprint (by rw [hget]; exact hvoid), hget]
    rfl
  have hdiscard : v.discardVoid e = v := State.discardVoid_none (s := v) (by rw [show v.sched.get e = _ from hget]; exact hvoid)
  have hdefer := State.deferDecision_idle (s := v) hidle hrecord hwaiting (by rw [show v.sched.get e = _ from hget])
  have hheld : v.choose e = v.modSched e fun y => { y with heldDecision := true } := by
    rw [← hdefer]
    simp [State.choose, hdiscard, State.canDecide_stopping (s := v) hstopping]
  have hchanges : (s.popped e l).modSched e (fun y => { y with heldDecision := true }) =
      s.modSched e fun y => { y with access := .none, heldDecision := true, heldTest := false, heldArrival := false, stack := l } :=
    State.modSched_modSched e _ _ s
  rw [← hchanges]
  exact .calmStep hread hv
    (.skip (a := .quiet x.order 0) (State.quietTest_unresolved (s := v) horder) hv
      (.skip (a := .place x.order false none) (State.placeOrder_unresolved (s := v) horder) hv
        (.skip (a := .retryAwaiting) (State.retryAwaiting_none (s := v) hawaiting) hv
          (.calmStep (made := []) hheld hv (.done _)))))

end

/-! ## The statement -/

/-- Settles O28: EVACUATE with the placement of the one order, a push's end with the pop or the rest that follows, and a pop's end. -/
theorem runEvacuated : Obligations.RunEvacuated := by
  refine ⟨?_, ?_, ?_⟩
  · intro t e r o s hc hadmits hport haccess hqueue hstack ho hawaiting returned
    have hone : s.ReturnsOne t e r o := ⟨hadmits, hport, haccess, hqueue, hstack, ho⟩
    refine ⟨fun hstate => ⟨_, rfl, State.evacuate_unresolved hc hone hawaiting hstate⟩, fun d hc hde hstate hkind hneeds => ?_⟩
    have htakes : o.state.takesRuns = true := by rcases hstate with h | h <;> rw [h] <;> rfl
    refine ⟨fun i x hprints hrecord hmedia hroom hi hx hlowest => ⟨_, rfl, ?_⟩, fun hoff =>
      ⟨_, rfl, State.evacuate_awaits hc hone hawaiting htakes hkind hneeds hoff⟩⟩
    have hplaced := State.evacuate_placed hc hone hawaiting hde htakes hkind hneeds hprints hrecord hmedia hroom hi hx hlowest
    simp only [joinQueue_eq] at hplaced
    exact hplaced
  · intro d e g q pos a why l x s hc hl htag haccess hending hstack hpos hx hvoid hrecord
    have hcalm : (s.laneFreed g.place).calm 1 := hc
    refine ⟨fun hrunning hoffered hqueue hactive => ⟨_, rfl, ?_⟩, fun hwhy hawaited hdecision htest harrival hblocked => ⟨_, rfl, ?_⟩⟩
    · have hfollows := State.burstEnd_applies (State.finishBurst_push (d := d) hl htag) hcalm
        (.pushWritten hcalm haccess hending hstack hpos (DirEntry.none_void_snoc hx hvoid) hrunning hrecord hoffered hqueue hactive)
        (by decide) hc.1.2
      exact ⟨hfollows.still, hfollows.mem_requests (List.mem_append_right _ (List.mem_singleton_self _))⟩
    · subst hwhy
      have hend : s.finishBurst .failed = (s.laneFreed g.place).pushAll [.pushWritten e false] := by
        rw [State.finishBurst_failed hl, htag]
        rfl
      exact (State.burstEnd_applies hend hcalm (.pushFailed hcalm haccess hending hstack hpos hvoid hawaited hdecision htest harrival
        hblocked hrecord) (by decide) hc.1.2).still
  · intro d e g q pos l x s hc hl htag hread haccess hstack hx hvoid hreprint hstopping hidle hrecord hwaiting hawaiting horder w off lost
    have hcalm : (s.laneFreed g.place).calm 1 := hc
    have hdone : s.finishBurst (.done d) = (s.laneFreed g.place).pushAll [.popRead e true (q.got ++ fit g.length d)] := by
      rw [State.finishBurst_lastRead hl hread, htag]
      rfl
    have hfailed : s.finishBurst .failed = (s.laneFreed g.place).pushAll [.popRead e false []] := by
      rw [State.finishBurst_failed hl, htag]
      rfl
    refine ⟨fun hpasses hactive => ⟨_, rfl, ?_⟩, fun hfails => ⟨_, rfl, ?_⟩, ⟨_, rfl, ?_⟩⟩
    · exact (State.burstEnd_applies hdone hcalm (.popRestored hcalm haccess hstack hx hvoid hstopping hidle hrecord hwaiting
        ((framePasses_iff _ _).mpr hpasses)) (by decide) hc.1.2).still
    · exact (State.burstEnd_applies hdone hcalm (.popLost hcalm haccess hstack hx hvoid hreprint hstopping hidle hrecord hwaiting hawaiting
        horder fun h => hfails ((framePasses_iff _ _).mp h.2)) (by decide) hc.1.2).still
    · exact (State.burstEnd_applies hfailed hcalm (.popLost hcalm haccess hstack hx hvoid hreprint hstopping hidle hrecord hwaiting hawaiting
        horder fun h => Bool.false_ne_true h.1) (by decide) hc.1.2).still

end Sys2Proof.Machine
end

section
/-! SUPPORT. The line renderers: a line of an empty ring and one of the overcoat, the load list with its tone image, and the start of a proof run
(R96, R99 to R105, R109 to R112). O31, O32, O35 and O36. -/

namespace Sys2Proof.Machine

/-! ## Changes of a renderer -/

section
variable {e : Fin 2} {s : State}

theorem State.modRend_get (e : Fin 2) (f : Renderer → Renderer) (s : State) : (s.modRend e f).renderers.get e = f (s.renderers.get e) := by
  simp

/-- A change of a renderer after another is one change. -/
theorem State.modRend_modRend (e : Fin 2) (f g : Renderer → Renderer) (s : State) :
    (s.modRend e f).modRend e g = s.modRend e fun r => g (f r) := by
  simp [State.modRend]

/-! ## Line requests (R104, R105, R109) -/

/-- The renderer after a line request that found the ring empty: the line's place is skipped (R104, R105). -/
def Renderer.late (r : Renderer) : Renderer := { r with margin := 0, lineIndex := r.lineIndex + 1, skip := r.skip + 1 }

/-- A line of a colour pass with the ring empty is LATE (R104, R105). -/
theorem State.renderLine_late {temp : Nat} {p : Pass} {h : InHand} (hcolour : p ≠ .o) (hpass : (s.renderers.get e).pass = some p)
    (hhand : (s.renderers.get e).inHand = some h) (hring : (s.renderers.get e).ring = []) :
    s.renderLine e temp = (zeroLine, some .late, (s.modRend e Renderer.late).count (.lateLines e) 1) := by
  change _ = (s.modRend e fun _ => (s.renderers.get e).late).failLine e .late
  cases p with
  | o => exact absurd rfl hcolour
  | _ => simp [State.renderLine, hpass, hhand, hring, Renderer.late]

/-- A line of the overcoat pass needs no source line (R104, R109). -/
theorem State.renderLine_overcoat {temp : Nat} {h : InHand} (hpass : (s.renderers.get e).pass = some .o)
    (hhand : (s.renderers.get e).inHand = some h) :
    let r := s.renderers.get e
    s.renderLine e temp =
      (overcoatLine r.latched.overcoat h.finish r.lineIndex, none, s.modRend e fun r => { r with lineIndex := r.lineIndex + 1 }) := by
  simp only [State.renderLine, hpass, hhand]

/-- The pulses of a dot of an overcoat line (R109). -/
def overcoatDot (po : Nat) (finish : Finish) (n i : Nat) : Nat := if finish = .matte ∧ (n + i) % 2 = 1 then po / 2 else po

theorem overcoatDot_le (po : Nat) (finish : Finish) (n i : Nat) : overcoatDot po finish n i ≤ po := by
  unfold overcoatDot
  split
  · exact Nat.div_le_self po 2
  · exact Nat.le_refl po

theorem overcoatLine_eq_map (po : Nat) (finish : Finish) (n : Nat) :
    overcoatLine po finish n = (List.range 1280).map (overcoatDot po finish n) := by
  refine List.map_congr_left fun i _ => ?_
  cases finish with
  | glossy => simp [overcoatDot]
  | matte =>
    rcases Nat.mod_two_eq_zero_or_one (n + i) with h | h
    · simp [overcoatDot, h]
    · simp [overcoatDot, h]

end

/-- Settles O36 (the model's own `overcoatLine` has the obligation's name): the counts are those of the dots, each at most the overcoat pulses. -/
theorem overcoatLine_holds : Obligations.OvercoatLine := by
  intro e temp h s hpass hhand po n
  refine ⟨_, State.renderLine_overcoat hpass hhand, ?_, fun i hi => ⟨?_, fun c hc => ?_⟩⟩
  · simp [overcoatLine_eq_map]
  · simp [overcoatLine_eq_map, hi, overcoatDot, po, n]
  · rw [overcoatLine_eq_map] at hc
    obtain ⟨j, -, rfl⟩ := List.mem_map.mp hc
    exact overcoatDot_le _ _ _ _

/-- A change of a port leaves the counters' course as it is (R195). -/
theorem State.modPort_count (e : Fin 2) (f : Port → Port) (id : CounterId) (n : Nat) (s : State) :
    (s.modPort e f).count id n = (s.count id n).modPort e f := by
  simp only [State.count, apply_ite (State.modPort e f)]
  rfl

/-- A counter's rise leaves a quiet part quiet (R195). -/
theorem State.count_quiet {s : State} (id : CounterId) (n : Nat) (h : s.quiet) : (s.count id n).quiet := by
  simpa [State.quiet] using h

/-- The record of a print with one more line, which is LATE (R121, R123). -/
def PrintRecord.late (r : PrintRecord) : PrintRecord :=
  { r with lineIndex := r.lineIndex + 1, failed := r.failed + 1, firstCause := some (r.firstCause.getD .late) }

/-- A line request with the ring empty, from the port to the print's mark (R121, R123). -/
theorem State.mechLineRequest_late {e : Fin 2} {temp : Nat} {r : PrintRecord} {p : Pass} {h : InHand} {s : State}
    (hwatching : (s.ports.get e).watching = true) (hprinting : (s.ports.get e).state = .printing)
    (hrecord : (s.ports.get e).record = some r) (hphase : (s.ports.get e).phase = some (.pass p)) (hleft : r.lineIndex < r.lines)
    (hcolour : p ≠ .o) (hpass : (s.renderers.get e).pass = some p) (hhand : (s.renderers.get e).inHand = some h)
    (hring : (s.renderers.get e).ring = []) :
    s.mechLineRequest e temp =
      ((s.modRend e Renderer.late).count (.lateLines e) 1).modPort e fun q =>
        { q with lastTemp := some temp, signalAt := s.clock, record := some r.late, lineData := zeroLine } := by
  let heard (q : Port) : Port := { q with lastTemp := some temp, signalAt := s.clock }
  let answered (q : Port) : Port := { q with record := some r.late, lineData := zeroLine }
  have hhears : (s.ports.get e).hears = true := by simp [Port.hears, hwatching, hprinting]
  have hlate := State.renderLine_late (s := s.modPort e heard) (temp := temp) hcolour hpass hhand hring
  have hasked : s.mechLineRequest e temp = (s.modPort e heard).answerLine e temp r := by
    simp only [State.mechLineRequest, hhears, hrecord, hphase, if_pos hleft]
    rfl
  calc s.mechLineRequest e temp
      = (((s.modPort e heard).modRend e Renderer.late).count (.lateLines e) 1).modPort e answered := by
        rw [hasked, State.answerLine, hlate]
        rfl
    _ = (((s.modRend e Renderer.late).count (.lateLines e) 1).modPort e heard).modPort e answered :=
        congrArg (State.modPort e answered) (State.modPort_count e heard _ 1 (s.modRend e Renderer.late))
    _ = _ := State.modPort_modPort e heard answered _

/-- Settles O35: the port passes the request to the renderer, whose answer marks the print. -/
theorem lateLineAnswered : Obligations.LateLineAnswered := by
  intro e temp r p h s hc hwatching hprinting hrecord hphase hleft hcolour hpass hhand hring
  have hstep := State.mechLineRequest_late (temp := temp) hwatching hprinting hrecord hphase hleft hcolour hpass hhand hring
  have hquiet := State.count_quiet (s := s.modRend e Renderer.late) (.lateLines e) 1 hc.1
  exact ⟨_, rfl, State.perform_still (a := .cmd (.mechLineRequest e temp)) hc hstep hquiet (Nat.le_of_eq (State.count_occupied _ 1 _))⟩

/-! ## Requests applied in a row, after any step -/

/-- What a step asks for is applied in a row; what follows is the exchange controller's own course. -/
theorem State.settle_applies {l : List Act} {places n : Nat} {s u : State} (hc : s.calm places) (h : State.Applies l s n u) (hn : n ≤ 4096)
    (hb : u.exch.busMaster = true) : State.Follows u (s.pushAll l).settle := by
  obtain ⟨⟨hagenda, -⟩, hwaiting, -⟩ := hc
  rw [State.pushAll_eq, hagenda]
  exact h.drain Config.fuel _ hn hagenda hwaiting hb (by simp [Function.comp_def])

/-! ## The load list (R99, R100) -/

/-- The head of the load list, with no reservation of its profile held, has its image asked for (R99, R100). -/
theorem State.toneHead_asks {l : ToneLoad} {rest : List ToneLoad} {s : State} (hl : s.toneLoads = l :: rest) (hidle : l.reading = false)
    (hfree : ∀ e, (s.renderers.get e).reserved ≠ some l.profile) :
    s.toneHead = ({ s with toneLoads := { l with reading := true } :: rest } : State).request .tone l.address 512 none := by
  have hheld : s.profileHeld l.profile = false := by
    simp only [State.profileHeld, Bool.or_eq_false_iff, beq_eq_false_iff_ne]
    exact ⟨hfree 0, hfree 1⟩
  simp [State.toneHead, hl, hidle, hheld]

/-- A sound LOAD_TONE joins the load list, whose head is looked at (R99). -/
theorem State.loadTone_joins {t : Ticket} {profile colour address : Nat} {s : State} (hprofile : profile ≤ 3) (hcolour : colour ≤ 2)
    (haddress : address + 512 ≤ 18446744073709551616) :
    s.loadTone t profile colour address =
      ({ s with toneLoads := s.toneLoads ++ [{ ticket := t, profile := profile, colour := colour, address := address }] } : State).pushAll
        [.toneHead] := by
  have hwithin : ¬ Config.addressLimit < address + 512 := Nat.not_lt.mpr haddress
  rw [State.loadTone, if_neg (Nat.not_lt.mpr hprofile), if_neg (Nat.not_lt.mpr hcolour), if_neg hwithin]
  rfl

/-- The notice of a free profile changes nothing with no print and no proof that waits (R101, R112, R120). -/
theorem State.profileFreeAt_none {e : Fin 2} {profile : Nat} {s : State} (hprint : (s.ports.get e).waitingPrint = none)
    (hproof : (s.renderers.get e).proof = none) : s.profileFreeAt e profile = s := by
  simp [State.profileFreeAt, hprint, hproof]

/-- The number of entries of a tone image that R100 clamps. -/
def toneClamped (image : List Byte) : Nat := ((List.range 256).filter fun k => decide (1023 < field image (2 * k) 2)).length

/-- The tone tables with the clamped entries of an image in the place of a load (R100). -/
def State.tonesLoaded (l : ToneLoad) (image : List Byte) (s : State) : List (List Nat) :=
  s.tones.set (3 * l.profile + l.colour) ((List.range 256).map fun k => min (field image (2 * k) 2) 1023)

/-- The image of the one load of the list replaces its table, and its profile is free (R100). -/
theorem State.toneRead_replaces {image : List Byte} {l : ToneLoad} {s : State} (hl : s.toneLoads = [l]) :
    s.toneRead image =
      (({ s with toneLoads := [], tones := s.tonesLoaded l image } : State).endTicket l.ticket 12 .ok
        (toneClamped image + if 0 < toneClamped image then 2147483648 else 0)).pushAll
        [.profileFreeAt 0 l.profile, .profileFreeAt 1 l.profile, .toneHead] := by
  have hclamped : ((toneImage image).filter fun v => decide (1023 < v)).length = toneClamped image := by
    simp [toneImage, toneClamped, List.filter_map, Function.comp_def]
  have htones : (toneImage image).map (fun v => min v 1023) = (List.range 256).map fun k => min (field image (2 * k) 2) 1023 := by
    simp [toneImage, Function.comp_def]
  simp only [State.toneRead, hl, hclamped, htones, State.toneLeaves]
  rfl

/-- A LOAD_TONE that finds the load list empty is its head at once (R99, R100). -/
theorem State.loadTone_follows {t : Ticket} {profile colour address : Nat} {s : State} (hc : s.calm 0) (hprofile : profile ≤ 3)
    (hcolour : colour ≤ 2) (haddress : address + 512 ≤ 18446744073709551616) (hl : s.toneLoads = [])
    (hfree : ∀ e, (s.renderers.get e).reserved ≠ some profile) :
    State.Follows (({ s with
      toneLoads := [{ ticket := t, profile := profile, colour := colour, address := address, reading := true }] } : State).request .tone
        address 512 none) (s.loadTone t profile colour address).settle := by
  let joined : State := { s with toneLoads := [{ ticket := t, profile := profile, colour := colour, address := address }] }
  have hjoined : joined.calm 0 := hc
  have hasks := State.toneHead_asks (s := joined) rfl rfl hfree
  have hjoins := State.loadTone_joins (t := t) (s := s) hprofile hcolour haddress
  rw [hl] at hjoins
  rw [hjoins]
  exact State.settle_applies hjoined (.calmStep (a := .toneHead) (made := []) hasks hjoined (.done _)) (by decide) hc.1.2

/-- What a load's end asks for changes nothing with the load list empty and no print and no proof that waits. -/
theorem State.Applies.toneLeft {k profile : Nat} {s : State} (hc : s.calm k) (hl : s.toneLoads = [])
    (hnone : ∀ e, (s.ports.get e).waitingPrint = none ∧ (s.renderers.get e).proof = none) :
    State.Applies [.profileFreeAt 0 profile, .profileFreeAt 1 profile, .toneHead] s 3 s := by
  have hfree (e : Fin 2) : s.profileFreeAt e profile = s := State.profileFreeAt_none (hnone e).1 (hnone e).2
  exact .skip (a := .profileFreeAt 0 profile) (hfree 0) hc
    (.skip (a := .profileFreeAt 1 profile) (hfree 1) hc (.skip (a := .toneHead) (State.toneHead_none hl) hc (.done _)))

/-- Settles O32: the list's only ticket is its head at once, and leaves it empty when its image has been read. -/
theorem toneAsked : Obligations.ToneAsked := by
  refine ⟨fun t profile colour address s hc ht hprofile hcolour haddress hl hfree => ?_, fun d g r l s hc hb htag hg hl hnone => ?_⟩
  · have hfollows := State.loadTone_follows (t := t) (State.accept_calm t hc) hprofile hcolour haddress (by rw [State.accept_toneLoads, hl])
      (by rw [State.accept_renderers]; exact hfree)
    refine ⟨_, rfl, ?_⟩
    rw [State.taking_of_takes ht.1, State.forLiveOrder_accept ht.2, ← State.accept_mover t s]
    exact ⟨hfollows.still, hfollows.requests⟩
  · intro image entry clamped
    let left : State := ({ s.laneFreed g.place with toneLoads := [], tones := s.tonesLoaded l image } : State).endTicket l.ticket 12 .ok
      (toneClamped image + if 0 < toneClamped image then 2147483648 else 0)
    have hleft : left.calm 0 := hc
    have hend : s.finishBurst (.done d) = left.pushAll [.profileFreeAt 0 l.profile, .profileFreeAt 1 l.profile, .toneHead] := by
      rw [State.finishBurst_lastRead hb hg, htag]
      exact State.toneRead_replaces (s := s.laneFreed g.place) hl
    refine ⟨_, rfl, ?_⟩
    rw [hend]
    exact (State.settle_applies hleft (.toneLeft hleft rfl hnone) (by decide) hc.1.2).still

/-! ## The start of a proof run (R102, R110 to R112) -/

/-- With room in the ring and no line in fetch the line at the fetch position is asked for (R102). -/
theorem State.fetchStep_asks {e : Fin 2} {p : Pass} {n : Nat} {h : InHand} {s : State} (hhand : (s.renderers.get e).inHand = some h)
    (hpos : (s.renderers.get e).fetchPos = some (p, n)) (hidle : (s.renderers.get e).inFetch = none)
    (hroom : (s.renderers.get e).ring.length < 16) (hgood : (s.renderers.get e).proofFailed = false) :
    s.fetchStep e =
      (s.modRend e fun r => { r with inFetch := some { pass := p, line := n }, fetchPos := nextFetch h.lines p n }).request (.source e)
        (h.image + 3840 * n) 3840 none := by
  simp [State.fetchStep, hhand, hpos, hidle, hgood, Config.ringPlaces, hroom, Config.lineBytes]

/-- The renderer that a print or proof has taken, with its first source line in fetch (R102, R103, R112). -/
def Renderer.begun (a : Activity) (h : InHand) (latched : RenderSet) (r : Renderer) : Renderer :=
  { r with
    activity := a
    inHand := some h
    latched := latched
    pass := none
    fetchPos := if 1 < h.lines then some (.y, 1) else some (.m, 0)
    inFetch := some { pass := .y, line := 0 }
    skip := 0
    ring := [] }

/-- A print or proof that starts with no line in fetch asks for its first source line (R102, R103, R112). -/
theorem State.renderBegin_asks {e : Fin 2} {a : Activity} {h : InHand} {s : State} (hidle : (s.renderers.get e).inFetch = none)
    (hgood : (s.renderers.get e).proofFailed = false) :
    s.renderBegin e a h = (s.modRend e (Renderer.begun a h (s.settings.render.get e))).request (.source e) h.image 3840 none := by
  let taken (r : Renderer) : Renderer :=
    { r with activity := a, inHand := some h, latched := s.settings.render.get e, pass := none, fetchPos := some (.y, 0), skip := 0, ring := [] }
  have htaken : (s.modRend e taken).renderers.get e = taken (s.renderers.get e) := s.modRend_get e taken
  have hasks := State.fetchStep_asks (s := s.modRend e taken) (congrArg Renderer.inHand htaken) (congrArg Renderer.fetchPos htaken)
    ((congrArg Renderer.inFetch htaken).trans hidle) (by simp [taken]) ((congrArg Renderer.proofFailed htaken).trans hgood)
  rw [State.modRend_modRend] at hasks
  exact hasks

/-- The renderer of a proof run that has started: its profile is reserved, and pass Y has begun (R101, R111, R112). -/
def Renderer.proofStarted (p : Proof) (h : InHand) (latched : RenderSet) (r : Renderer) : Renderer :=
  Renderer.passStart .y { r.begun .proof h latched with reserved := some h.profile, proof := some { p with waiting := false } }

/-- A proof whose profile is not barred reserves it, and its run starts (R111, R112). -/
theorem State.proofReserve_starts {e : Fin 2} {p : Proof} {h : InHand} {s : State} (hproof : (s.renderers.get e).proof = some p)
    (hhand : (s.renderers.get e).inHand = some h) (hgood : p.failed = false) (hidle : (s.renderers.get e).inFetch = none)
    (hfree : ∀ l ∈ s.toneLoads, l.profile ≠ h.profile) :
    s.proofReserve e =
      ((s.modRend e (Renderer.proofStarted p h (s.settings.render.get e))).request (.source e) h.image 3840 none).pushAll [.proofStep e] := by
  let latched := s.settings.render.get e
  let starts (r : Renderer) : Renderer := Renderer.passStart .y { r with proof := some { p with waiting := false } }
  have hbarred : s.barred h.profile = false := by simpa [State.barred] using hfree
  have hreserved : (s.reserve e h.profile).renderers.get e = { s.renderers.get e with reserved := some h.profile } := s.modRend_get e _
  have hbegin := State.renderBegin_asks (s := s.reserve e h.profile) (e := e) (a := .proof) (h := h)
    ((congrArg Renderer.inFetch hreserved).trans hidle) (by simp [hreserved, Renderer.proofFailed, hproof, hgood])
  have hchanges : ((s.reserve e h.profile).modRend e (Renderer.begun .proof h latched)).modRend e starts =
      s.modRend e (Renderer.proofStarted p h latched) := by
    rw [State.reserve, State.modRend_modRend, State.modRend_modRend]
    rfl
  have hreserve : s.proofReserve e = (((s.reserve e h.profile).renderBegin e .proof h).modRend e starts).push (.proofStep e) := by
    simp only [State.proofReserve, hproof, hhand, hbarred]
    rfl
  rw [hreserve, hbegin, ← hchanges]
  rfl

/-- With its ring empty a proof in a colour pass waits for its source line (R112). -/
theorem State.proofStep_waits {e : Fin 2} {p : Proof} {h : InHand} {s : State} (hproof : (s.renderers.get e).proof = some p)
    (hhand : (s.renderers.get e).inHand = some h) (hcolour : p.pass ≠ .o) (hring : (s.renderers.get e).ring = []) : s.proofStep e = s := by
  cases hp : p.pass with
  | o => exact absurd hp hcolour
  | _ => simp [State.proofStep, hproof, hhand, hring, hp]

/-- The print in hand of a proof run (R110). -/
def proofInHand (source lines profile finish : Nat) : InHand :=
  { image := source, lines := lines, profile := profile, finish := if finish = 0 then .glossy else .matte }

/-- An engine moved from IDLE to PROOF by a ticket (R117, R135). -/
def State.toProof (e : Fin 2) (t : Ticket) (s : State) : State :=
  let q := s.ports.get e
  (s.modPort e fun p => { p with offered := false, testCause := none, waitingPrint := none, state := .proof }).emit
    (.engine .proof .idle .proof q.faultRecord q.media q.sheets q.ribbons q.lastTemp) e.val 0 t.seq

section
variable {t : Ticket} {e : Fin 2} {profile finish temp lines source dest : Nat} {s : State}

theorem proofFieldRefused_none (e : Fin 2) (hprofile : profile ≤ 3) (hfinish : finish ≤ 1) (hlines : 0 < lines)
    (hmost : lines ≤ 2400) (hsource : source + 3840 * lines ≤ 18446744073709551616)
    (hdest : dest + 4 * lines * 2560 ≤ 18446744073709551616) :
    proofFieldRefused e.val profile finish lines source dest = none := by
  have hsourceFits : ¬ Config.addressLimit < source + Config.lineBytes * lines := Nat.not_lt.mpr hsource
  have hdestFits : ¬ Config.addressLimit < dest + 4 * lines * Config.proofLineBytes := Nat.not_lt.mpr hdest
  have hlinesFit : (lines == 0 || decide (2400 < lines)) = false := by simp; omega
  have hengine : ¬ 1 < e.val := by omega
  simp [proofFieldRefused, hengine, Nat.not_lt.mpr hprofile, Nat.not_lt.mpr hfinish, hlinesFit, hsourceFits, hdestFits]

/-- A sound ENGINE_PROOF of an IDLE engine moves it to PROOF and asks for the profile's reservation (R110, R112, R135). -/
theorem State.startProof_idle (hfields : proofFieldRefused e.val profile finish lines source dest = none)
    (hidle : (s.ports.get e).state = .idle) :
    s.startProof t e.val profile finish temp lines source dest =
      ((s.toProof e t).modRend e fun r =>
        { r with
          proof := some { ticket := t, dest := dest, temp := temp, waiting := true }
          inHand := some (proofInHand source lines profile finish) }).pushAll [.proofReserve e] := by
  have hleaves := State.portLeaves_eq (e := e) (new := .proof) .proof 0 t.seq (s := s) (by rw [hidle]; decide) (by rw [hidle]; decide)
  simp only [hidle] at hleaves
  have hmoves : s.portLeaves e .proof .proof 0 t.seq = s.toProof e t := by
    simpa [State.toProof, EngineState.alarms, State.attendIf] using hleaves
  simp only [State.startProof, hfields, engineOf_val, hidle, hmoves, beq_iff_eq]
  rfl

/-- The start of a proof run, with its requests applied in a row: the reservation, and the first step, which waits for its source line. -/
theorem State.Applies.proofStarts {k : Nat} (hc : s.calm (k + 1))
    (hstart : applyAct (.cmd (.engineProof t e.val profile finish temp lines source dest)) s =
      s.startProof t e.val profile finish temp lines source dest)
    (hfields : proofFieldRefused e.val profile finish lines source dest = none)
    (hidle : (s.ports.get e).state = .idle) (hfree : ∀ l ∈ s.toneLoads, l.profile ≠ profile)
    (hfetch : (s.renderers.get e).inFetch = none) :
    State.Applies [.cmd (.engineProof t e.val profile finish temp lines source dest)] s 3
      (((s.toProof e t).modRend e
        (Renderer.proofStarted { ticket := t, dest := dest, temp := temp } (proofInHand source lines profile finish)
          (s.settings.render.get e))).request (.source e) source 3840 none) := by
  let p : Proof := { ticket := t, dest := dest, temp := temp, waiting := true }
  let h : InHand := proofInHand source lines profile finish
  let asked (r : Renderer) : Renderer := { r with proof := some p, inHand := some h }
  let v := (s.toProof e t).modRend e asked
  have hget : v.renderers.get e = asked (s.renderers.get e) := State.modRend_get e asked (s.toProof e t)
  have hv : v.calm k := State.emit_calm (s := s.modPort e _) hc _ _ _ _
  have hreserve := State.proofReserve_starts (s := v) (e := e) (p := p) (h := h) (congrArg Renderer.proof hget)
    (congrArg Renderer.inHand hget) rfl ((congrArg Renderer.inFetch hget).trans hfetch) hfree
  let started := Renderer.proofStarted p h (v.settings.render.get e)
  let w := (v.modRend e started).request (.source e) h.image 3840 none
  have hstarted : w.renderers.get e = started (v.renderers.get e) := State.modRend_get e started v
  have hwaits : w.proofStep e = w := State.proofStep_waits (p := { p with waiting := false }) (h := h) (congrArg Renderer.proof hstarted)
    (congrArg Renderer.inHand hstarted) (show Pass.y ≠ .o by decide) (congrArg Renderer.ring hstarted)
  have hchanges : v.modRend e started =
      (s.toProof e t).modRend e (Renderer.proofStarted { ticket := t, dest := dest, temp := temp } h (s.settings.render.get e)) :=
    State.modRend_modRend e asked started (s.toProof e t)
  rw [← hchanges]
  exact .calmStep (hstart.trans (State.startProof_idle hfields hidle)) hv
    (.calmStep (a := .proofReserve e) hreserve hv (.skip (a := .proofStep e) hwaits hv (.done _)))

end

/-- Settles O31: the ticket's step, the reservation it asks for and the first step of the run, applied in a row. -/
theorem proofStarted : Obligations.ProofStarted := by
  intro t e profile finish temp lines source dest s hc ht hprofile hfinish hlines hmost hsource hdest hidle hfree hfetch
  have hcalm := State.accept_calm t hc
  have hsettings : (s.accept t).exch.settings = s.exch.settings := by simp
  have hstarts := State.Applies.proofStarts (t := t) (e := e) (temp := temp) hcalm
    (State.forLiveOrder_accept ht.2 kindEngineProof (State.startProof t e.val profile finish temp lines source dest))
    (proofFieldRefused_none e hprofile hfinish hlines hmost hsource hdest) (by rw [State.accept_ports]; exact hidle)
    (by rw [State.accept_toneLoads]; exact hfree) (by rw [State.accept_renderers]; exact hfetch)
  have hfollows := State.settle_applies hcalm hstarts (by decide) hcalm.1.2
  refine ⟨_, rfl, ?_⟩
  rw [State.taking_of_takes ht.1, ← State.accept_ports t s, ← State.accept_mover t s, ← hsettings]
  exact ⟨hfollows.still, hfollows.requests⟩

end Sys2Proof.Machine
end

section
/-! SUPPORT. The engine ports outside the course of a print, and a print's last signal: MEDIA_SET, a FAULT report, EJECT_DONE and 1,000 ms of silence
(R116 to R118, R121, R131, R133). O30, O34, O37 and O38. -/

namespace Sys2Proof.Machine

/-! ## A command that moves an engine (R117) -/

/-- A calm part makes at once a step whose whole effect is an engine's move, with its outcome and its cause (R117). -/
theorem State.perform_move_still {a : Act} {e : Fin 2} {f : Port → Port} {p : Payload} {order seq : Nat} {cause : Bool} {s : State}
    (hc : s.calm 1) (happly : applyAct a s = ((s.modPort e f).emit p e.val order seq).attendIf cause .engine) :
    (s.perform a).still = (((s.modPort e f).emit p e.val order seq).attendIf cause .engine).still :=
  State.perform_still hc happly (by simpa [State.quiet] using hc.1) (by simp)

/-- A port that watches hears its mechanism in every state but PROOF (R135). -/
theorem Port.hears_eq_true {p : Port} (hwatching : p.watching = true) (hproof : p.state ≠ .proof) : p.hears = true := by
  simp [Port.hears, hwatching, hproof]

/-! ## A FAULT report outside a print (R116, R131) -/

/-- A FAULT report at IDLE with no print moves the engine to FAULT (R131). -/
theorem State.mechFault_idle {e : Fin 2} {code : MechFaultCode} {s : State} (hwatching : (s.ports.get e).watching = true)
    (hidle : (s.ports.get e).state = .idle) (hrecord : (s.ports.get e).record = none) :
    let q := s.ports.get e
    s.mechFault e code =
      ((s.modPort e fun p =>
        { p with heardAt := s.clock, signalAt := s.clock, faultRecord := some (faultOf code), offered := false, testCause := none
                 waitingPrint := none, state := .fault }).emit
        (.engine .fault .idle .fault (some (faultOf code)) q.media q.sheets q.ribbons q.lastTemp) e.val 0 0).attendIf true .engine := by
  intro q
  let heard (p : Port) : Port := { p with heardAt := s.clock, signalAt := s.clock }
  let faulted (p : Port) : Port := { p with heardAt := s.clock, signalAt := s.clock, faultRecord := some (faultOf code) }
  have hhears : q.hears = true := Port.hears_eq_true hwatching (by rw [hidle]; decide)
  have hport : (s.modPort e faulted).ports.get e = faulted q := s.modPort_get e faulted
  have hstate : ((s.modPort e faulted).ports.get e).state = .idle := by rw [hport]; exact hidle
  have hmarked : s.mechFault e code = (s.modPort e faulted).portLeaves e .fault .fault 0 0 := by
    have htwice : (s.modPort e heard).modPort e (fun p => { p with faultRecord := some (faultOf code) }) = s.modPort e faulted :=
      State.modPort_modPort e heard _ s
    rw [← htwice]
    simp only [State.mechFault, show (s.ports.get e).hears = true from hhears, hrecord, hidle]
    rfl
  have hleaves := State.portLeaves_eq (e := e) (new := .fault) .fault 0 0 (s := s.modPort e faulted) (by rw [hstate]; decide)
    (by rw [hstate]; decide)
  simp only [hport, State.modPort_modPort, show (faulted q).state = .idle from hidle] at hleaves
  exact hmarked.trans hleaves

/-- Settles O34: the report is heard, and with no print in course it moves the engine. -/
theorem faultOutsidePrint : Obligations.FaultOutsidePrint := by
  intro e code s hc hwatching hidle hrecord recorded
  have hrecorded : recorded = faultOf code := by cases code <;> rfl
  rw [hrecorded]
  exact ⟨_, rfl, State.perform_move_still (a := .cmd (.mechFault e code)) hc (State.mechFault_idle hwatching hidle hrecord)⟩

/-! ## The last signal of a print (R121) -/

/-- EJECT_DONE in phase EJECT ends the print (R121). -/
theorem State.mechEjectDone_ends {e : Fin 2} {temp : Nat} {r : PrintRecord} {s : State} (hwatching : (s.ports.get e).watching = true)
    (hprinting : (s.ports.get e).state = .printing) (hrecord : (s.ports.get e).record = some r)
    (hphase : (s.ports.get e).phase = some .eject) :
    s.mechEjectDone e temp = s.modPort e fun p => { p with lastTemp := some temp, signalAt := s.clock, phase := some .ended } := by
  have hhears : (s.ports.get e).hears = true := Port.hears_eq_true hwatching (by rw [hprinting]; decide)
  rw [← State.modPort_modPort e (fun p => { p with lastTemp := some temp, signalAt := s.clock }) fun p => { p with phase := some .ended }]
  simp only [State.mechEjectDone, hhears, hrecord, hphase]
  rfl

/-- Settles O37: the signal is heard, and the port's step asks nothing of another block. -/
theorem sheetEjected : Obligations.SheetEjected := by
  intro e temp r s hc hwatching hprinting hrecord hphase
  exact ⟨_, rfl, State.perform_still (a := .cmd (.mechEjectDone e temp)) hc
    (State.mechEjectDone_ends hwatching hprinting hrecord hphase) hc.1 (Nat.le_of_eq (State.modPort_occupied e _ s))⟩

/-! ## A silence outside a print (R118) -/

theorem EngineState.fallsSilent_iff (st : EngineState) :
    st.fallsSilent = true ↔ st ∈ [EngineState.idle, .blocked, .held, .cooling, .noMedia, .paused] := by
  cases st <;> decide

/-- Of the states that fall silent, those of alarm are HELD, COOLING and NO_MEDIA (R117, R118). -/
theorem EngineState.alarms_of_fallsSilent {st : EngineState} (h : st.fallsSilent = true) :
    st.alarms = decide (st ∈ [EngineState.held, .cooling, .noMedia]) := by
  cases st
  case fault => contradiction
  all_goals rfl

/-- At its moment the silence moves the engine to OFFLINE (R118); a state that falls silent is neither OFFLINE nor FAULT, so no departure is made
known to the scheduler. -/
theorem State.engineSilence_due {e : Fin 2} {s : State} (hwatching : (s.ports.get e).watching = true)
    (hfalls : (s.ports.get e).state.fallsSilent = true) (hdue : reached s.clock ((s.ports.get e).heardAt + 1000) = true) :
    let q := s.ports.get e
    s.engineSilence e =
      ((s.modPort e fun p => { p with offered := false, testCause := none, waitingPrint := none, state := .offline }).emit
        (.engine .silent q.state .offline q.faultRecord q.media q.sheets q.ribbons q.lastTemp) e.val 0 0).attendIf
        (s.exch.settings.engineBoth && q.state.alarms) .engine := by
  intro q
  have hoffline : q.state ≠ .offline := fun h => by rw [h] at hfalls; contradiction
  have hfault : q.state ≠ .fault := fun h => by rw [h] at hfalls; contradiction
  have hdeparts : s.engineSilence e = s.portLeaves e .offline .silent 0 0 := by
    simp [State.engineSilence, hwatching, hfalls, hdue, Config.engineSilence]
  exact hdeparts.trans (State.portLeaves_eq .silent 0 0 hoffline fun h => h.elim hoffline hfault)

/-- Settles O38: the moment has been reached, so the clock stays, and the port's step is the move to OFFLINE. -/
theorem engineFallsSilent : Obligations.EngineFallsSilent := by
  rintro e st s hc hwatching rfl hst hdue
  have hfalls := (EngineState.fallsSilent_iff _).mpr hst
  have hmoment : s.silentAt e = some ((s.ports.get e).heardAt + 1000) := by
    simp [State.silentAt, hwatching, hfalls, Config.engineSilence]
  refine ⟨_, rfl, ?_⟩
  rw [hmoment, State.advance_reached hdue, ← EngineState.alarms_of_fallsSilent hfalls]
  exact State.perform_move_still (a := .cmd (.engineSilence e)) hc (State.engineSilence_due hwatching hfalls hdue)

/-! ## MEDIA_SET (R133) -/

/-- MEDIA_SET at OFFLINE with no boundary offered stores the kind and the clamped counts; no boundary test follows, for the engine is not at rest,
and the retry of the orders that await an engine does (R77, R133). -/
theorem State.setMedia_offline {t : Ticket} {e : Fin 2} {kind sheets ribbons : Nat} {s : State} (hkind : kind ≤ 3)
    (hoffline : (s.ports.get e).state = .offline) (hoffered : (s.ports.get e).offered = false)
    (hfree : (s.ports.get e).media = some kind ∨ (s.sched.get e).runCount = 0) :
    let q := s.ports.get e
    s.setMedia t e.val kind sheets ribbons =
      (((s.modPort e fun p => { p with media := some kind, sheets := min sheets 1000, ribbons := min ribbons 1000 }).emit
        (.engine .mediaSet .offline .offline q.faultRecord (some kind) (min sheets 1000) (min ribbons 1000) q.lastTemp) e.val 0 t.seq).endTicket
        t 14 .ok (min sheets 1000 + if 1000 < sheets ∨ 1000 < ribbons then 2147483648 else 0)).pushAll [.retryAwaiting] := by
  intro q
  have hrests : q.rests = false := by simp [Port.rests, Port.standsOffered, EngineState.atRest, q, hoffline, hoffered]
  have hloaded : (q.media != some kind && decide (0 < (s.sched.get e).runCount)) = false := by
    rcases hfree with h | h <;> simp [q, h]
  have hnotPrinting : (q.state == .printing) = false := by simp [q, hoffline]
  have hclamped : (decide (Config.mediaLimit < sheets) || decide (Config.mediaLimit < ribbons)) = decide (1000 < sheets ∨ 1000 < ribbons) :=
    (Bool.decide_or _ _).symm
  simp only [State.setMedia, engineOf_val, if_neg (Nat.not_lt.mpr hkind), State.emitEngine, State.modPort_get, hclamped, decide_eq_true_eq]
  rw [hnotPrinting, hloaded, hrests, hoffline]
  rfl

/-- A step whose one request is the retry of an awaiting list that is empty (R77). -/
theorem State.Applies.retriesNone {a : Act} {k : Nat} {s v : State} (happly : applyAct a s = v.pushAll [.retryAwaiting]) (hv : v.calm k)
    (hawaiting : v.awaiting = []) : State.Applies [a] s 2 v :=
  .calmStep happly hv (.skip (a := .retryAwaiting) (State.retryAwaiting_none hawaiting) hv (.done v))

/-- Settles O30: the ticket's step makes one request, the retry of an awaiting list that is empty. -/
theorem mediaStored : Obligations.MediaStored := by
  intro t e kind sheets ribbons s hc ⟨ht, hlive⟩ hkind hoffline hoffered hfree hawaiting
  rw [← State.accept_ports t s] at hoffline hoffered hfree ⊢
  rw [← State.accept_sched t s] at hfree
  rw [← State.accept_awaiting t s] at hawaiting
  have hcalm := State.accept_calm t hc
  have hstores := (State.forLiveOrder_accept hlive kindMediaSet _).trans
    (State.setMedia_offline (t := t) (sheets := sheets) (ribbons := ribbons) hkind hoffline hoffered hfree)
  exact ⟨_, rfl, State.taking_perform_applies hc ht
    (.retriesNone hstores (State.emit_calm (s := (s.accept t).modPort e _) hcalm _ _ _ _) hawaiting) (by decide) hcalm.1.2⟩

end Sys2Proof.Machine
end

section
/-! SUPPORT. The tender link: a frame of the line at the receiver, the link's rise and fall, a HOLD's frame and the timers of a request
(R139 to R146, R148, R202, R204). O41 to O46. -/

namespace Sys2Proof.Machine

/-! ## Numbers as bytes -/

@[simp] theorem leBytes_length (w v : Nat) : (leBytes w v).length = w := by
  induction w generalizing v with
  | zero => rfl
  | succ w ih => simp [leBytes, ih]

@[simp] theorem beBytes_length (w v : Nat) : (beBytes w v).length = w := by simp [beBytes]

theorem ofLE_leBytes {w v : Nat} (h : v < 256 ^ w) : ofLE (leBytes w v) = v := by
  induction w generalizing v with
  | zero => simp_all [leBytes, ofLE]
  | succ w ih =>
    have hrest : v / 256 < 256 ^ w := by rw [Nat.div_lt_iff_lt_mul (by decide)]; rwa [pow_succ] at h
    simp only [leBytes, ofLE, ih hrest, BitVec.toNat_ofNat]
    omega

theorem ofBE_beBytes {w v : Nat} (h : v < 256 ^ w) : ofBE (beBytes w v) = v := by
  simp [ofBE, beBytes, ofLE_leBytes h]

/-! ## The check fits its 16 bits (R139) -/

theorem crcBit_lt {c : Nat} (h : c < 2 ^ 16) : crcBit c < 2 ^ 16 := by
  unfold crcBit
  split
  · exact Nat.xor_lt_two_pow (Nat.mod_lt _ (by decide)) (by decide)
  · omega

theorem crcBits_lt {c : Nat} (k : Nat) (h : c < 2 ^ 16) : crcBits k c < 2 ^ 16 := by
  induction k generalizing c with
  | zero => exact h
  | succ k ih => exact ih (crcBit_lt h)

theorem crcByte_lt {c : Nat} (b : Byte) (h : c < 2 ^ 16) : crcByte c b < 2 ^ 16 := by
  have hb := b.isLt
  exact crcBits_lt 8 (Nat.xor_lt_two_pow h (by omega))

theorem crcFrom_lt {c : Nat} (l : List Byte) (h : c < 2 ^ 16) : crcFrom c l < 2 ^ 16 := by
  induction l generalizing c with
  | nil => exact h
  | cons b l ih => exact ih (crcByte_lt b h)

theorem tenderCheck_lt (l : List Byte) : tenderCheck l < 65536 := crcFrom_lt l (by decide)

/-! ## A frame's bytes (R139, R204) -/

section
variable (seq kind : Nat) (payload : List Byte) (bad : Bool)

/-- The check a frame carries, inverted in a bad one (R139, R202). -/
def sentCheck : Nat :=
  let crc := tenderCheck (frameCore seq kind payload)
  if bad then 65535 - crc else crc

theorem frameBytes_eq :
    frameBytes seq kind payload bad = 0xC3#8 :: (frameCore seq kind payload ++ beBytes 2 (sentCheck seq kind payload bad)) := by
  simp only [frameBytes, sentCheck, List.cons_append]

theorem sentCheck_lt : sentCheck seq kind payload bad < 256 ^ 2 := by
  have h := tenderCheck_lt (frameCore seq kind payload)
  simp only [sentCheck]
  split <;> omega

/-- A number of 16 bits is never its own inverse, so an inverted check never matches. -/
theorem tenderCheck_eq_sentCheck : (tenderCheck (frameCore seq kind payload) == sentCheck seq kind payload bad) = !bad := by
  have h := tenderCheck_lt (frameCore seq kind payload)
  cases bad
  · simp [sentCheck]
  · simp [sentCheck]; omega

@[simp] theorem frameSound_frameBytes : frameSound (frameBytes seq kind payload bad) = !bad := by
  have hbody : (frameBytes seq kind payload bad).drop 1 = frameCore seq kind payload ++ beBytes 2 (sentCheck seq kind payload bad) := by
    simp only [frameBytes_eq, List.drop_one, List.tail_cons]
  have hlength : (frameCore seq kind payload ++ beBytes 2 (sentCheck seq kind payload bad)).length - 2
      = (frameCore seq kind payload).length := by simp
  simp only [frameSound, hbody, hlength, List.take_left, List.drop_left]
  rw [ofBE_beBytes (sentCheck_lt ..), tenderCheck_eq_sentCheck]

theorem frameBytes_payload :
    ((frameBytes seq kind payload bad).drop 4).take ((frameBytes seq kind payload bad).length - 6) = payload := by
  simp [frameBytes_eq, frameCore]

end

/-! ## The receiver (R140, R141) -/

/-- The part with these bytes of a frame in assembly, the last of them heard now. -/
def State.assembling (rx : List Byte) (s : State) : State := s.modTender fun t => { t with rx := rx, rxLast := s.clock }

section
variable {s : State} {sync len : Byte}

/-- Past its length byte a frame is whole at the byte that makes it as long as that says, and is in assembly before. -/
theorem State.receiveByte_assembling (got : List Byte) (b : Byte) :
    (s.assembling (sync :: len :: got)).receiveByte b =
      if (sync :: len :: (got ++ [b])).length == len.toNat + 6 then
        (s.assembling (sync :: len :: got)).frameAssembled (sync :: len :: (got ++ [b]))
      else s.assembling (sync :: len :: (got ++ [b])) := rfl

/-- The receiver gathers the bytes that do not complete the frame. -/
theorem State.foldl_receiveByte (got l : List Byte) (h : got.length + l.length < len.toNat + 4) :
    l.foldl (fun s b => s.receiveByte b) (s.assembling (sync :: len :: got)) = s.assembling (sync :: len :: (got ++ l)) := by
  induction l generalizing got with
  | nil => simp
  | cons b l ih =>
    have hopen : ((sync :: len :: (got ++ [b])).length == len.toNat + 6) = false := by simp at h ⊢; omega
    have hstep : (s.assembling (sync :: len :: got)).receiveByte b = s.assembling (sync :: len :: (got ++ [b])) := by
      simp only [State.receiveByte_assembling, hopen, Bool.false_eq_true, if_false]
    rw [List.foldl_cons, hstep, ih (got ++ [b]) (by simp at h ⊢; omega), List.append_assoc, List.singleton_append]

/-- A listening receiver in HUNT assembles a frame of the length that its second byte gives, whole at its last byte. -/
theorem State.lineBytes_frame {body : List Byte} (hlisten : s.tender.listening = true) (hloop : s.tender.loopOn = false)
    (hhunt : s.tender.rx = []) (hlen : len.toNat ≤ 40) (hbody : body.length = len.toNat + 4) :
    ∃ rx, s.lineBytes (0xC3#8 :: len :: body) = (s.assembling rx).frameAssembled (0xC3#8 :: len :: body) := by
  obtain rfl | ⟨l, last, rfl⟩ := body.eq_nil_or_concat
  · simp at hbody
  have hgap : s.receiveGap = s := by simp [State.receiveGap, hhunt]
  have hsync : s.receiveByte 0xC3#8 = s.assembling [0xC3#8] := by simp [State.receiveByte, hhunt, State.assembling]
  have hlength : (s.assembling [0xC3#8]).receiveByte len = s.assembling [0xC3#8, len] := by
    simp [State.receiveByte, State.assembling, State.modTender, Nat.not_lt.mpr hlen]
  have hlast : (s.assembling (0xC3#8 :: len :: l)).receiveByte last =
      (s.assembling (0xC3#8 :: len :: l)).frameAssembled (0xC3#8 :: len :: (l ++ [last])) := by
    have hwhole : ((0xC3#8 :: len :: (l ++ [last])).length == len.toNat + 6) = true := by simp at hbody ⊢; omega
    simp only [State.receiveByte_assembling, hwhole, if_true]
  refine ⟨0xC3#8 :: len :: l, ?_⟩
  simp only [State.lineBytes, hlisten, hloop, Bool.not_false, Bool.and_self, if_true, hgap, List.foldl_cons, List.concat_eq_append,
    hsync, hlength, List.foldl_append, List.foldl_nil]
  rw [State.foldl_receiveByte [] l (by simp at hbody ⊢; omega), List.nil_append, hlast]

/-- Every frame of a payload of at most 40 bytes is assembled at its last byte. -/
theorem State.lineBytes_frameBytes (seq kind : Nat) {payload : List Byte} (bad : Bool) (hlisten : s.tender.listening = true)
    (hloop : s.tender.loopOn = false) (hhunt : s.tender.rx = []) (hlen : payload.length ≤ 40) :
    ∃ rx, s.lineBytes (frameBytes seq kind payload bad) = (s.assembling rx).frameAssembled (frameBytes seq kind payload bad) := by
  have hlength : (BitVec.ofNat 8 payload.length).toNat = payload.length := by simp; omega
  exact State.lineBytes_frame hlisten hloop hhunt (by omega) (by simp [hlength])

end

/-- A sound frame with a content its kind defines joins a receive queue with room (R140, R141). -/
theorem State.frameAssembled_joins {s : State} {seq kind : Nat} {payload rx : List Byte} (hseq : seq < 256) (hkind : kind < 256)
    (hcontent : (contentOf kind seq payload).isSome = true) (hroom : s.tender.queue.length < 8) :
    (s.assembling rx).frameAssembled (frameBytes seq kind payload false) =
      s.modTender fun t =>
        { t with
          rx := []
          rxLast := s.clock
          lastValid := some s.clock
          queue := t.queue ++ [{ seq := seq, kind := kind, payload := payload, arrival := s.clock }] } := by
  have hseqByte : ((frameBytes seq kind payload false).getD 2 0).toNat = seq := by
    simpa [frameBytes_eq, frameCore] using hseq
  have hkindByte : ((frameBytes seq kind payload false).getD 3 0).toNat = kind := by
    simpa [frameBytes_eq, frameCore] using hkind
  simp only [State.frameAssembled, hseqByte, hkindByte, frameBytes_payload, frameSound_frameBytes, hcontent, Bool.not_false,
    Bool.and_self, if_true]
  exact if_pos hroom

/-- A frame whose check does not match is discarded (R140). -/
theorem State.frameAssembled_discards {s : State} {seq kind : Nat} {payload rx : List Byte} :
    (s.assembling rx).frameAssembled (frameBytes seq kind payload true) =
      (s.modTender fun t => { t with rx := [], rxLast := s.clock }).count .frameErrors 1 := by
  simp [State.frameAssembled, State.discardFrame, State.assembling, State.modTender]

/-- Settles O41: the receiver assembles the frame at its last byte, and the frame joins the queue. -/
theorem frameRoundTrip : Obligations.FrameRoundTrip := by
  intro seq kind payload s hq hlisten hloop hhunt hseq hkind hlen hcontent hroom
  obtain ⟨rx, hline⟩ := State.lineBytes_frameBytes seq kind false hlisten hloop hhunt hlen
  rw [State.frameAssembled_joins hseq hkind hcontent hroom] at hline
  refine ⟨_, rfl, ?_⟩
  rw [(State.settle_follows _ (by rw [hline]; exact hq)).still, hline]
  simp only [State.modTender, hhunt]

/-- Settles O42: the receiver assembles the frame at its last byte, where its check fails; and a gap that has been reached discards what was
assembled. -/
theorem framesDiscarded : Obligations.FramesDiscarded := by
  intro s hq
  refine ⟨fun seq kind payload hlisten hloop hhunt hlen => ?_, fun hbytes hgap => ?_⟩
  · obtain ⟨rx, hline⟩ := State.lineBytes_frameBytes seq kind true hlisten hloop hhunt hlen
    rw [State.frameAssembled_discards] at hline
    refine ⟨_, rfl, ?_⟩
    rw [(State.settle_follows _ (by rw [hline]; exact State.count_quiet _ _ hq)).still, hline]
    simp only [State.modTender, hhunt]
  · have hmoment : s.receiveGapAt = some (s.tender.rxLast + 21) := by simp [State.receiveGapAt, hbytes, Config.receiveGap]
    have hdiscards : s.receiveGap = s.discardFrame := by simp [State.receiveGap, hbytes, Config.receiveGap, hgap]
    refine ⟨_, rfl, ?_⟩
    rw [hmoment, State.advance_reached hgap, hdiscards]
    exact (State.settle_follows s.discardFrame
      (State.count_quiet (s := s.modTender fun t => { t with rx := [] }) _ _ hq)).still

/-! ## The link (R142, R143) -/

/-- LINK_UP sets the cause for OUT_OF_SERVICE, and for any state under the edge select BOTH (R143). -/
theorem State.attendTender_linkUp (prev : Option TermState) (code : TermState) (s : State) :
    s.attendTender .linkUp prev (some code) = s.attendIf (code == .outOfService || s.exch.settings.tenderBoth) .tender := by
  simp only [State.attendTender, State.settings]
  cases code <;> cases s.exch.settings.tenderBoth <;> rfl

/-- A STATE frame that agrees with the candidate brings a link UP that was DOWN (R142, R143). -/
theorem State.stateFrame_agrees {s : State} {code : TermState} (hloop : s.tender.loopOn = false)
    (hcandidate : s.tender.candidate = some code) (hdown : s.tender.linkUp = false) :
    s.stateFrame code =
      ((s.modTender fun t => { t with linkUp := true, accepted := some code }).emit
        (.tender .linkUp s.tender.accepted (some code) true false s.tender.quiet s.tender.echo) 0 0 0).attendIf
        (code == .outOfService || s.exch.settings.tenderBoth) .tender := by
  have hagrees : (s.tender.candidate != some code) = false := by simp [hcandidate]
  simp only [State.stateFrame, hloop, hagrees, hdown, State.attendTender_linkUp, State.emitTender, State.modTender]
  rfl

/-- Settles O43: the frame leaves the receive queue, and agrees with the candidate. -/
theorem linkComesUp : Obligations.LinkComesUp := by
  intro f rest code s hc hqueue hcontent hloop hcandidate hdown
  let v := s.modTender fun t => { t with queue := rest }
  have hhead : s.processHead = v.stateFrame code := by simp only [State.processHead, hqueue, hcontent]; rfl
  exact ⟨_, rfl, State.perform_still (a := .cmd .receiveQueueProcess) hc
    (hhead.trans (State.stateFrame_agrees (s := v) hloop hcandidate hdown)) (by simpa [State.quiet] using hc.1) (by simp)⟩

/-- 3,000 ms of silence bring a link DOWN that was UP (R143). -/
theorem State.linkSilent_due {s : State} {at_ : Nat} (hdue : s.tender.silenceAt = some at_) (hreach : reached s.clock at_ = true)
    (hloop : s.tender.loopOn = false) :
    s.linkSilent =
      ((s.modTender fun x => { x with linkUp := false, candidate := none }).emit
        (.tender .linkDown s.tender.accepted s.tender.accepted false false s.tender.quiet s.tender.echo) 0 0 0).attend .tender := by
  simp only [State.linkSilent, hdue, hreach, if_true, State.emitTender, State.modTender, hloop]
  rfl

/-- Settles O44: the moment has been reached, so the clock stands, and the link's step is its fall. -/
theorem linkGoesDown : Obligations.LinkGoesDown := by
  intro t s hc hlisten hloop hup hvalid hreach
  have hdue : s.tender.silenceAt = some (t + 3000) := by simp [Tender.silenceAt, hlisten, hloop, hup, hvalid, Config.linkSilence]
  refine ⟨_, rfl, ?_⟩
  rw [hdue, State.advance_reached hreach]
  exact State.perform_still (a := .cmd .linkSilence) hc (State.linkSilent_due hdue hreach hloop) hc.1 (by simp)

/-! ## Sending (R144 to R146) -/

/-- With nothing reserved the next sequence is taken (R146). -/
theorem Tender.freshSeq_unreserved {t : Tender} (hreserved : t.reservedSeqs = []) (hlow : 1 ≤ t.nextSeq) (hhigh : t.nextSeq ≤ 255) :
    t.freshSeq = t.nextSeq := by
  have hrange : List.range 255 = 0 :: (List.range 254).map Nat.succ := List.range_succ_eq_map
  have hfirst : (t.nextSeq + 0 - 1) % 255 + 1 = t.nextSeq := by omega
  simp only [Tender.freshSeq, hreserved, hrange, List.map_cons]
  rw [hfirst]
  rfl

/-- The frame of the HOLD at the head of the request queue starts (R146). -/
theorem State.startRequest_hold {s : State} {e : TenderEntry} {rest : List TenderEntry} (hkind : e.kind = .hold)
    (hrequests : s.tender.requests = e :: rest) (hfresh : s.tender.freshSeq = s.tender.nextSeq) :
    let q := s.tender.nextSeq
    s.startRequest e =
      (((s.modTender fun t =>
        { t with
          requests := rest
          outstanding := some { entry := e, seq := q }
          nextSeq := q % 255 + 1
          armed := t.armed - 1
          tx := some { what := .request q, started := s.clock
                       bytes := frameBytes q 1 (beBytes 2 e.order ++ beBytes 4 e.amount) (decide (0 < t.armed)) } }).modOrder e.order
        fun o => { o with request := o.request.map fun r => { r with seq := some q } }).emit
        (.payment .sent (some .hold) q none none e.reference e.amount) 0 e.order 0) := by
  have hframe : e.frame = (0x01, beBytes 2 e.order ++ beBytes 4 e.amount) := by simp [TenderEntry.frame, hkind]
  simp only [State.startRequest, hfresh, hframe, State.startFrame, State.emitRequest, hkind, State.modTender, hrequests,
    List.erase_cons_head]
  rfl

/-- Settles O45: the gap is over, no QUERY and no test frame is due, so the HOLD is chosen and its frame starts. -/
theorem holdSent : Obligations.HoldSent := by
  intro e rest q s hc htx hout htest hlisten hup hloop haccepted hrequests hkind hseq hlow hhigh hreserved hgap
  subst hseq
  have hchosen : s.tender.chosen = some e := by
    simp [Tender.chosen, Tender.maySend, hlisten, hup, hloop, hout, hrequests, haccepted]
  have hquery : s.tender.queryDue = none := by simp [Tender.queryDue, hout]
  have hnoTest : s.tender.testDue = none := by simp [Tender.testDue, htest]
  have hpassed : s.gapPassed = true := by
    cases hend : s.tender.lastTxEnd with
    | none => simp [State.gapPassed, Tender.gapEnd, hend]
    | some t => simpa [State.gapPassed, Tender.gapEnd, hend, Config.transmitGap] using hgap t hend
  have hclock : s.advance s.frameAt = s := by
    have hwants : s.tender.wantsFrame = true := by simp [Tender.wantsFrame, htx, hchosen]
    cases hend : s.tender.lastTxEnd with
    | none => simp [State.frameAt, hwants, Tender.gapEnd, hend, State.advance]
    | some t => simpa [State.frameAt, hwants, Tender.gapEnd, hend, Config.transmitGap] using State.advance_reached (hgap t hend)
  have hstarts : s.gapElapsed = s.startRequest e := by
    simp [State.gapElapsed, htx, hpassed, hquery, hnoTest, hchosen]
  have hframe := State.startRequest_hold hkind hrequests (Tender.freshSeq_unreserved hreserved hlow hhigh)
  refine ⟨_, rfl, ?_⟩
  rw [hclock]
  exact State.perform_still (a := .cmd .transmitGapElapsed) hc (hstarts.trans hframe) hc.1 (by simp)

/-! ## The timers of a request (R146, R148) -/

/-- The end of a request's frame starts its response timeout (R146). -/
theorem State.transmitEnded_request {s : State} {o : Outstanding} {x : Transmission} (hout : s.tender.outstanding = some o)
    (htx : s.tender.tx = some x) (hwhat : x.what = .request o.seq) (hexpiry : o.expiry = none)
    (hreach : reached s.clock (x.started + x.duration) = true) :
    let ended := clockAt (x.started + x.duration)
    s.transmitEnded = s.modTender fun t =>
      { t with
        tx := none
        lastTxEnd := some ended
        outstanding := some { o with expiry := some (clockAt (ended + s.responseTimeout o.entry.kind)) } } := by
  have hawaited : (o.seq == o.seq && o.expiry.isNone) = true := by simp [hexpiry]
  simp only [State.transmitEnded, htx, hreach, hwhat, State.modTender, hout, hawaited, if_true, Bool.not_true, Bool.false_eq_true, if_false]
  rfl

/-- The expiry of the response timeout makes a QUERY due (R148). -/
theorem State.responseExpired_due {s : State} {o : Outstanding} {t : Nat} (hout : s.tender.outstanding = some o)
    (hphase : o.phase = .awaitResult) (hexpiry : o.expiry = some t) (hreach : reached s.clock t = true) :
    s.responseExpired = s.modTender fun x =>
      { x with outstanding := some { o with phase := .queryDue, expiry := some (clockAt (t + 1000 * s.exch.settings.shortTimeout)) } } := by
  simp only [State.responseExpired, hout, hphase, hexpiry, hreach, if_true]
  rfl

/-- Settles O46: each moment has been reached, so the clock stands, and the timer's step asks nothing of another block. -/
theorem requestTimers : Obligations.RequestTimers := by
  intro o s hc hout
  refine ⟨?_, fun t hphase hexpiry hreach => ?_⟩
  · intro x htx hwhat hexpiry hkind hreach ended
    have hmoment : s.transmitAt = some (x.started + x.bytes.length * 10000 / 19200) := by
      simp [State.transmitAt, htx, Transmission.duration]
    have hends := State.transmitEnded_request hout htx hwhat hexpiry hreach
    rw [hkind] at hends
    refine ⟨_, rfl, ?_⟩
    rw [hmoment, State.advance_reached hreach]
    exact State.perform_still (a := .cmd .transmitEnd) hc hends hc.1 le_rfl
  · have hmoment : s.responseAt = some t := by simp [State.responseAt, hout, hphase, hexpiry]
    refine ⟨_, rfl, ?_⟩
    rw [hmoment, State.advance_reached hreach]
    exact State.perform_still (a := .cmd .responseExpiry) hc (State.responseExpired_due hout hphase hexpiry hreach) hc.1 le_rfl

end Sys2Proof.Machine
end

section
/-! SUPPORT. What leaves the cash acceptor as it is: every operation of another block, one lemma each in the order of the model, and the parts of the
order table's own work that send it no notice (R157, R163). -/

namespace Sys2Proof.Machine

/-! ## Branches and lists -/

@[simp] theorem State.cash_ite (c : Prop) [Decidable c] (s t : State) :
    (if c then s else t).cash = if c then s.cash else t.cash := apply_ite State.cash c s t

/-- A list of updates that each leave the acceptor leaves it. -/
theorem State.foldl_cash {α : Type} (f : State → α → State) (hf : ∀ s a, (f s a).cash = s.cash) (l : List α) (s : State) :
    (l.foldl f s).cash = s.cash := by
  induction l generalizing s with
  | nil => rfl
  | cons a l ih => rw [List.foldl_cons, ih, hf]

/-! ## The clock -/

@[simp] theorem State.advanceTo_cash (t : Nat) (s : State) : (s.advanceTo t).cash = s.cash := by
  simp [State.advanceTo]

/-! ## Notices -/

@[simp] theorem State.unreserve_cash (seq : Nat) (s : State) : (s.unreserve seq).cash = s.cash := rfl
@[simp] theorem State.orphanReads_cash (n : Nat) (s : State) : (s.orphanReads n).cash = s.cash := rfl
@[simp] theorem State.endReads_cash (code : ResultCode) (l : List ReadEntry) (s : State) : (s.endReads code l).cash = s.cash := by
  induction l generalizing s with
  | nil => rfl
  | cons a l ih => simp [State.endReads, ih]
@[simp] theorem State.cancelReadsAt_cash (n : Nat) (k : Fin 4) (s : State) : (s.cancelReadsAt n k).cash = s.cash := by
  simp [State.cancelReadsAt]
@[simp] theorem State.cancelReads_cash (n : Nat) (s : State) : (s.cancelReads n).cash = s.cash := State.foldl_cash _ (by simp) _ s

/-! ## Payment tickets -/

@[simp] theorem State.endPay_cash (t : Option Ticket) (code : ResultCode) (detail : Nat) (s : State) :
    (s.endPay t code detail).cash = s.cash := by
  simp only [State.endPay]; split <;> simp

/-! ## The cash acceptor -/

@[simp] theorem State.emitCash_cash (event : CashEvent) (order count amount credited : Nat) (reason : Option CashReason) (seq : Nat) (s : State) :
    (s.emitCash event order count amount credited reason seq).cash = s.cash := rfl
@[simp] theorem State.strayCash_cash (count : Nat) (why : CashReason) (s : State) : (s.strayCash count why).cash = s.cash := by
  simp [State.strayCash]

/-! ## The card intake unit -/

@[simp] theorem State.emitCard_cash (n : Fin 4) (cause : CardCause) (prev : SlotState) (attempts order : Nat)
    (failure : Option IdentifyFailure) (s : State) :
    (s.emitCard n cause prev attempts order failure).cash = s.cash := rfl
@[simp] theorem State.declareInsertion_cash (n : Fin 4) (s : State) : (s.declareInsertion n).cash = s.cash := by
  simp [State.declareInsertion]
@[simp] theorem State.insertionApplied_cash (n : Fin 4) (s : State) : (s.insertionApplied n).cash = s.cash := by
  simp [State.insertionApplied]
@[simp] theorem State.declareRemoval_cash (n : Fin 4) (s : State) : (s.declareRemoval n).cash = s.cash := by
  simp [State.declareRemoval]
@[simp] theorem State.reportStaging_cash (r : ReadEntry) (k : StagingReport) (s : State) : (s.reportStaging r k).cash = s.cash := by
  simp [State.reportStaging]
@[simp] theorem State.reportReadEnd_cash (r : ReadEntry) (s : State) : (s.reportReadEnd r).cash = s.cash := by
  simp [State.reportReadEnd]
@[simp] theorem State.reportReadEnds_cash (l : List ReadEntry) (s : State) : (s.reportReadEnds l).cash = s.cash := by
  induction l generalizing s with
  | nil => rfl
  | cons a l ih => simp [State.reportReadEnds, ih]
@[simp] theorem State.endParked_cash (n : Fin 4) (s : State) : (s.endParked n).cash = s.cash := by
  simp only [State.endParked]; rw [State.foldl_cash _ (by simp)]; rfl
@[simp] theorem State.removalApplied_cash (n : Fin 4) (s : State) : (s.removalApplied n).cash = s.cash := by
  simp only [State.removalApplied]; (repeat' split) <;> simp
@[simp] theorem State.settleEnd_cash (n : Fin 4) (s : State) : (s.settleEnd n).cash = s.cash := by
  simp [State.settleEnd]
@[simp] theorem State.identifyFailed_cash (n : Fin 4) (why : IdentifyFailure) (s : State) : (s.identifyFailed n why).cash = s.cash := by
  simp [State.identifyFailed]
@[simp] theorem State.identifyAnswered_cash (n : Fin 4) (capacity check : Nat) (s : State) :
    (s.identifyAnswered n capacity check).cash = s.cash := by
  simp [State.identifyAnswered]
@[simp] theorem State.identifyTimedOut_cash (n : Fin 4) (s : State) : (s.identifyTimedOut n).cash = s.cash := by
  simp [State.identifyTimedOut]
@[simp] theorem State.identified_cash (n : Fin 4) (capacity : Nat) (s : State) : (s.identified n capacity).cash = s.cash := by
  simp [State.identified]
@[simp] theorem State.slotFaulted_cash (n : Fin 4) (why : IdentifyFailure) (s : State) : (s.slotFaulted n why).cash = s.cash := by
  simp [State.slotFaulted]
@[simp] theorem State.startRead_cash (n : Fin 4) (s : State) : (s.startRead n).cash = s.cash := by
  simp only [State.startRead]; split <;> simp
@[simp] theorem State.readBegin_cash (n : Fin 4) (s : State) : (s.readBegin n).cash = s.cash := by
  simp only [State.readBegin]; split <;> simp
@[simp] theorem State.queueEmpty_cash (n : Fin 4) (order : Nat) (s : State) : (s.queueEmpty n order).cash = s.cash := by
  simp [State.queueEmpty]
@[simp] theorem State.endRead_cash (n : Fin 4) (code : ResultCode) (s : State) : (s.endRead n code).cash = s.cash := by
  simp only [State.endRead]; split <;> simp
@[simp] theorem State.blockFailed_cash (n : Fin 4) (s : State) : (s.blockFailed n).cash = s.cash := by
  simp only [State.blockFailed]; split <;> simp
@[simp] theorem State.blockAnswered_cash (n : Fin 4) (data : List Byte) (check : Nat) (s : State) :
    (s.blockAnswered n data check).cash = s.cash := by
  simp only [State.blockAnswered]; split <;> simp
@[simp] theorem State.blockTimedOut_cash (n : Fin 4) (s : State) : (s.blockTimedOut n).cash = s.cash := by
  simp only [State.blockTimedOut]; split <;> simp
@[simp] theorem State.blockWritten_cash (n : Fin 4) (s : State) : (s.blockWritten n).cash = s.cash := by
  simp only [State.blockWritten]; (repeat' split) <;> simp
@[simp] theorem State.blockWriteFailed_cash (n : Fin 4) (s : State) : (s.blockWriteFailed n).cash = s.cash := by
  simp only [State.blockWriteFailed]; split <;> simp
@[simp] theorem State.readOrder_cash (t : Ticket) (n : Fin 4) (item : Nat) (extents : List Extent) (s : State) :
    (s.readOrder t n item extents).cash = s.cash := by
  simp only [State.readOrder]; split <;> simp
@[simp] theorem State.cardRead_cash (t : Ticket) (item : Nat) (extents : List Extent) (atTake : ReadCheck) (s : State) :
    (s.cardRead t item extents atTake).cash = s.cash := by
  simp only [State.cardRead]; split <;> simp
@[simp] theorem State.stopReadsAt_cash (n : Fin 4) (s : State) : (s.stopReadsAt n).cash = s.cash := by
  simp [State.stopReadsAt]
@[simp] theorem State.stopReads_cash (s : State) : s.stopReads.cash = s.cash := State.foldl_cash _ (by simp) _ s

/-! ## The counter block -/

@[simp] theorem State.startReportTimer_cash (s : State) : s.startReportTimer.cash = s.cash := rfl
@[simp] theorem State.readCounters_cash (t : Ticket) (s : State) : (s.readCounters t).cash = s.cash := rfl
@[simp] theorem State.reportTimerExpired_cash (s : State) : s.reportTimerExpired.cash = s.cash := by
  simp only [State.reportTimerExpired]; split <;> simp
@[simp] theorem State.endReports_cash (number : Nat) (l : List Ticket) (s : State) : (s.endReports number l).cash = s.cash := by
  induction l generalizing s with
  | nil => rfl
  | cons a l ih => simp [State.endReports, ih]
@[simp] theorem State.emitParts_cash (number seq k : Nat) (l : List (List Nat × List Bool)) (s : State) :
    (s.emitParts number seq k l).cash = s.cash := by
  induction l generalizing k s with
  | nil => rfl
  | cons a l ih => simp [State.emitParts, ih]
@[simp] theorem State.counterReport_cash (s : State) : s.counterReport.cash = s.cash := by
  simp only [State.counterReport]; split <;> simp

/-! ## The exchange controller -/

@[simp] theorem State.announce_cash (s : State) : s.announce.cash = s.cash := rfl
@[simp] theorem State.notifyTest_cash (s : State) : s.notifyTest.cash = s.cash := by
  simp only [State.notifyTest]; (repeat' split) <;> simp
@[simp] theorem State.readHeader_cash (slot : Nat) (found : List Header) (s : State) : (s.readHeader slot found).cash = s.cash := rfl
@[simp] theorem State.startScan_cash (s : State) : s.startScan.cash = s.cash := by
  simp [State.startScan]
@[simp] theorem State.endScan_cash (s : State) : s.endScan.cash = s.cash := by
  simp [State.endScan]
@[simp] theorem State.scanTrigger_cash (s : State) : s.scanTrigger.cash = s.cash := by
  simp [State.scanTrigger]
@[simp] theorem State.nextTake_cash (left : List Header) (fence : List Nat) (s : State) : (s.nextTake left fence).cash = s.cash := by
  simp only [State.nextTake]; split <;> simp
@[simp] theorem State.headerRead_cash (slot : Nat) (b : List Byte) (s : State) : (s.headerRead slot b).cash = s.cash := by
  simp only [State.headerRead]; split <;> simp
@[simp] theorem State.bodyRead_cash (slot : Nat) (b : List Byte) (s : State) : (s.bodyRead slot b).cash = s.cash := by
  simp only [State.bodyRead]; split <;> simp
@[simp] theorem State.enterStopping_cash (s : State) : s.enterStopping.cash = s.cash := by
  simp [State.enterStopping]
@[simp] theorem State.halt_cash (why : HaltCause) (s : State) : (s.halt why).cash = s.cash := by
  simp [State.halt]
@[simp] theorem State.stoppingTest_cash (s : State) : s.stoppingTest.cash = s.cash := by
  simp [State.stoppingTest]
@[simp] theorem State.readSetupBlock_cash (why : SetupCause) (s : State) : (s.readSetupBlock why).cash = s.cash := rfl
@[simp] theorem State.controlRun_cash (s : State) : s.controlRun.cash = s.cash := by
  simp only [State.controlRun]; split <;> simp
@[simp] theorem State.controlStop_cash (s : State) : s.controlStop.cash = s.cash := by
  simp only [State.controlStop]; split <;> simp
@[simp] theorem State.setupRead_cash (b : List Byte) (s : State) : (s.setupRead b).cash = s.cash := by
  simp only [State.setupRead]; split <;> simp
@[simp] theorem State.nextRefresh_cash (s : State) : s.nextRefresh.cash = s.cash := by
  simp only [State.nextRefresh]; split <;> simp
@[simp] theorem State.refreshSettings_cash (t : Ticket) (s : State) : (s.refreshSettings t).cash = s.cash := by
  simp [State.refreshSettings]
@[simp] theorem State.enterRunning_cash (s : State) : s.enterRunning.cash = s.cash := by
  simp [State.enterRunning]
@[simp] theorem State.settingsChanged_cash (old : Settings) (s : State) : (s.settingsChanged old).cash = s.cash := by
  simp [State.settingsChanged]
@[simp] theorem State.ticketPlace_cash (s : State) : s.ticketPlace.cash = s.cash := by
  simp only [State.ticketPlace]; split <;> simp
@[simp] theorem State.resultWritten_cash (slot : Nat) (s : State) : (s.resultWritten slot).cash = s.cash := rfl
@[simp] theorem State.doneWritten_cash (slot : Nat) (s : State) : (s.doneWritten slot).cash = s.cash := rfl
@[simp] theorem State.ownerWritten_cash (s : State) : s.ownerWritten.cash = s.cash := by
  simp only [State.ownerWritten]; split <;> simp
@[simp] theorem State.startRecord_cash (s : State) : s.startRecord.cash = s.cash := rfl
@[simp] theorem State.writeRecord_cash (s : State) : s.writeRecord.cash = s.cash := by
  simp only [State.writeRecord]; split <;> simp
@[simp] theorem State.markReread_cash (free : Bool) (s : State) : (s.markReread free).cash = s.cash := by
  simp [State.markReread]
@[simp] theorem State.markRead_cash (b : List Byte) (s : State) : (s.markRead b).cash = s.cash := by
  simp only [State.markRead]; split <;> simp
@[simp] theorem State.recordWritten_cash (s : State) : s.recordWritten.cash = s.cash := rfl
@[simp] theorem State.spoilNotice_cash (r : OutcomeRecord) (s : State) : (s.spoilNotice r).cash = s.cash := by
  simp only [State.spoilNotice]; (repeat' split) <;> simp
@[simp] theorem State.freshMarkWritten_cash (s : State) : s.freshMarkWritten.cash = s.cash := by
  simp only [State.freshMarkWritten]; split <;> simp
@[simp] theorem State.exchangeError_cash (tag : ReqTag) (s : State) : (s.exchangeError tag).cash = s.cash := by
  simp only [State.exchangeError]; split <;> simp
@[simp] theorem State.writeAttnCause_cash (v : Word32) (s : State) : (s.writeAttnCause v).cash = s.cash := rfl
@[simp] theorem State.writeAttnEnable_cash (v : Word32) (s : State) : (s.writeAttnEnable v).cash = s.cash := rfl
@[simp] theorem State.writeBaseLow_cash (v : Word32) (s : State) : (s.writeBaseLow v).cash = s.cash := by
  simp [State.writeBaseLow]
@[simp] theorem State.writeBaseHigh_cash (v : Word32) (s : State) : (s.writeBaseHigh v).cash = s.cash := by
  simp [State.writeBaseHigh]

/-! ## LOAD_PRICES -/

@[simp] theorem State.startPrices_cash (s : State) : s.startPrices.cash = s.cash := by
  simp only [State.startPrices]; split <;> simp
@[simp] theorem State.loadPrices_cash (t : Ticket) (address : Nat) (s : State) : (s.loadPrices t address).cash = s.cash := by
  simp only [State.loadPrices]; split_ifs <;> simp
@[simp] theorem State.pricesLeave_cash (s : State) : s.pricesLeave.cash = s.cash := by
  simp [State.pricesLeave]
@[simp] theorem State.pricesRead_cash (image : List Byte) (s : State) : (s.pricesRead image).cash = s.cash := by
  simp only [State.pricesRead]; (repeat' split) <;> simp
@[simp] theorem State.pricesFailed_cash (s : State) : s.pricesFailed.cash = s.cash := by
  simp only [State.pricesFailed]; split <;> simp

/-! ## The line renderers -/

@[simp] theorem State.reserve_cash (e : Fin 2) (profile : Nat) (s : State) : (s.reserve e profile).cash = s.cash := rfl
@[simp] theorem State.releaseProfile_cash (e : Fin 2) (s : State) : (s.releaseProfile e).cash = s.cash := rfl
@[simp] theorem State.toneHead_cash (s : State) : s.toneHead.cash = s.cash := by
  simp only [State.toneHead]; split <;> simp
@[simp] theorem State.loadTone_cash (t : Ticket) (profile colour address : Nat) (s : State) :
    (s.loadTone t profile colour address).cash = s.cash := by
  simp [State.loadTone]
@[simp] theorem State.toneLeaves_cash (profile : Nat) (s : State) : (s.toneLeaves profile).cash = s.cash := by
  simp [State.toneLeaves]
@[simp] theorem State.toneRead_cash (b : List Byte) (s : State) : (s.toneRead b).cash = s.cash := by
  simp only [State.toneRead]; split <;> simp
@[simp] theorem State.toneFailed_cash (s : State) : s.toneFailed.cash = s.cash := by
  simp only [State.toneFailed]; split <;> simp
@[simp] theorem State.fetchStep_cash (e : Fin 2) (s : State) : (s.fetchStep e).cash = s.cash := by
  simp only [State.fetchStep]; split <;> simp
@[simp] theorem State.renderBegin_cash (e : Fin 2) (a : Activity) (h : InHand) (s : State) : (s.renderBegin e a h).cash = s.cash := by
  simp [State.renderBegin]
@[simp] theorem State.renderEnd_cash (e : Fin 2) (s : State) : (s.renderEnd e).cash = s.cash := rfl
@[simp] theorem State.failLine_cash (e : Fin 2) (why : FailCause) (s : State) : (s.failLine e why).2.2.cash = s.cash := by
  simp [State.failLine]
@[simp] theorem State.renderLine_cash (e : Fin 2) (t : Nat) (s : State) : (s.renderLine e t).2.2.cash = s.cash := by
  simp only [State.renderLine]; (repeat' split) <;> simp
@[simp] theorem State.writeProofLine_cash (e : Fin 2) (p : Proof) (lines : Nat) (counts : List Nat) (s : State) :
    (s.writeProofLine e p lines counts).cash = s.cash := by
  simp [State.writeProofLine]
@[simp] theorem State.proofStep_cash (e : Fin 2) (s : State) : (s.proofStep e).cash = s.cash := by
  simp only [State.proofStep]; (repeat' split) <;> simp
@[simp] theorem State.proofReserve_cash (e : Fin 2) (s : State) : (s.proofReserve e).cash = s.cash := by
  simp only [State.proofReserve]; split <;> simp
@[simp] theorem State.proofFails_cash (e : Fin 2) (s : State) : (s.proofFails e).cash = s.cash := by
  simp only [State.proofFails]; split <;> simp
@[simp] theorem State.proofWritten_cash (e : Fin 2) (ok : Bool) (s : State) : (s.proofWritten e ok).cash = s.cash := by
  simp only [State.proofWritten]; split <;> simp
@[simp] theorem State.lineFetched_cash (e : Fin 2) (ok : Bool) (bytes : List Byte) (s : State) : (s.lineFetched e ok bytes).cash = s.cash := by
  simp only [State.lineFetched]; split <;> simp

/-! ## The memory mover -/

@[simp] theorem State.grantNext_cash (s : State) : s.grantNext.cash = s.cash := by
  simp only [State.grantNext]; (repeat' split) <;> simp

/-! ## The engine ports -/

@[simp] theorem State.emitEngine_cash (e : Fin 2) (cause : EngineCause) (prev : EngineState) (order seq : Nat) (s : State) :
    (s.emitEngine e cause prev order seq).cash = s.cash := rfl
@[simp] theorem State.portTo_cash (e : Fin 2) (new : EngineState) (cause : EngineCause) (order seq : Nat) (s : State) :
    (s.portTo e new cause order seq).cash = s.cash := by
  simp [State.portTo]
@[simp] theorem State.portLeaves_cash (e : Fin 2) (new : EngineState) (cause : EngineCause) (order seq : Nat) (s : State) :
    (s.portLeaves e new cause order seq).cash = s.cash := by
  simp [State.portLeaves]
@[simp] theorem State.offerBoundary_cash (e : Fin 2) (cause : Option EngineCause) (seq : Nat) (s : State) :
    (s.offerBoundary e cause seq).cash = s.cash := by
  simp [State.offerBoundary]
@[simp] theorem State.boundaryTest_cash (e : Fin 2) (cause : Option EngineCause) (seq : Nat) (s : State) :
    (s.boundaryTest e cause seq).cash = s.cash := by
  simp [State.boundaryTest]
@[simp] theorem State.boundaryAsked_cash (e : Fin 2) (cause : Option EngineCause) (seq : Nat) (s : State) :
    (s.boundaryAsked e cause seq).cash = s.cash := by
  simp [State.boundaryAsked]
@[simp] theorem State.portRests_cash (e : Fin 2) (new : EngineState) (s : State) : (s.portRests e new).cash = s.cash := by
  simp [State.portRests]
@[simp] theorem State.printWaits_cash (e : Fin 2) (p : Print) (s : State) : (s.printWaits e p).cash = s.cash := by
  simp [State.printWaits]
@[simp] theorem State.printStart_cash (e : Fin 2) (p : Print) (s : State) : (s.printStart e p).cash = s.cash := by
  simp only [State.printStart]; split <;> simp
@[simp] theorem State.printEnd_cash (e : Fin 2) (s : State) : (s.printEnd e).cash = s.cash := by
  simp only [State.printEnd]; split <;> simp
@[simp] theorem State.faultPrint_cash (e : Fin 2) (code : FaultCode) (s : State) : (s.faultPrint e code).cash = s.cash := rfl
@[simp] theorem State.beginPass_cash (e : Fin 2) (p : Pass) (r : PrintRecord) (s : State) : (s.beginPass e p r).cash = s.cash := rfl
@[simp] theorem State.readyInPrint_cash (e : Fin 2) (r : PrintRecord) (ph : Phase) (s : State) : (s.readyInPrint e r ph).cash = s.cash := by
  simp only [State.readyInPrint]; (repeat' split) <;> simp
@[simp] theorem State.readyAtRest_cash (e : Fin 2) (temp : Nat) (s : State) : (s.readyAtRest e temp).cash = s.cash := by
  simp only [State.readyAtRest]; split <;> simp
@[simp] theorem State.mechReady_cash (e : Fin 2) (temp : Nat) (s : State) : (s.mechReady e temp).cash = s.cash := by
  simp only [State.mechReady]; (repeat' split) <;> simp
@[simp] theorem State.mechFault_cash (e : Fin 2) (code : MechFaultCode) (s : State) : (s.mechFault e code).cash = s.cash := by
  simp only [State.mechFault]; (repeat' split) <;> simp
@[simp] theorem State.answerLine_cash (e : Fin 2) (temp : Nat) (r : PrintRecord) (s : State) : (s.answerLine e temp r).cash = s.cash := by
  simp [State.answerLine]
@[simp] theorem State.mechLineRequest_cash (e : Fin 2) (temp : Nat) (s : State) : (s.mechLineRequest e temp).cash = s.cash := by
  simp only [State.mechLineRequest]; (repeat' split) <;> simp
@[simp] theorem State.mechEjectDone_cash (e : Fin 2) (temp : Nat) (s : State) : (s.mechEjectDone e temp).cash = s.cash := by
  simp only [State.mechEjectDone]; (repeat' split) <;> simp
@[simp] theorem State.engineSilence_cash (e : Fin 2) (s : State) : (s.engineSilence e).cash = s.cash := by
  simp [State.engineSilence]
@[simp] theorem State.printSilence_cash (e : Fin 2) (s : State) : (s.printSilence e).cash = s.cash := by
  simp [State.printSilence]
@[simp] theorem State.profileFreeAt_cash (e : Fin 2) (profile : Nat) (s : State) : (s.profileFreeAt e profile).cash = s.cash := by
  simp only [State.profileFreeAt]; split <;> simp
@[simp] theorem State.spoilWritten_cash (e : Fin 2) (s : State) : (s.spoilWritten e).cash = s.cash := by
  simp [State.spoilWritten]
@[simp] theorem State.pauseEngine_cash (t : Ticket) (engine : Nat) (s : State) : (s.pauseEngine t engine).cash = s.cash := by
  simp only [State.pauseEngine]; split <;> simp
@[simp] theorem State.resumeEngine_cash (t : Ticket) (engine : Nat) (s : State) : (s.resumeEngine t engine).cash = s.cash := by
  simp only [State.resumeEngine]; split <;> simp
@[simp] theorem State.resetEngine_cash (t : Ticket) (engine : Nat) (s : State) : (s.resetEngine t engine).cash = s.cash := by
  simp only [State.resetEngine]; split <;> simp
@[simp] theorem State.setMedia_cash (t : Ticket) (engine kind sheets ribbons : Nat) (s : State) :
    (s.setMedia t engine kind sheets ribbons).cash = s.cash := by
  simp only [State.setMedia]; split <;> simp
@[simp] theorem State.startProof_cash (t : Ticket) (engine profile finish temp lines source dest : Nat) (s : State) :
    (s.startProof t engine profile finish temp lines source dest).cash = s.cash := by
  simp only [State.startProof]; split <;> simp
@[simp] theorem State.proofEnd_cash (e : Fin 2) (s : State) : (s.proofEnd e).cash = s.cash := by
  simp only [State.proofEnd]; split <;> simp

/-! ## The print scheduler -/

@[simp] theorem State.emitRun_cash (e : Fin 2) (event : RunEvent) (kind : Nat) (cause : Option RunCause) (runs voids order : Nat) (s : State) :
    (s.emitRun e event kind cause runs voids order).cash = s.cash := rfl
@[simp] theorem State.giveUpReprint_cash (n : Nat) (item : Option Nat) (s : State) : (s.giveUpReprint n item).cash = s.cash := by
  simp only [State.giveUpReprint]; split <;> simp
@[simp] theorem State.runEndReport_cash (n : Nat) (s : State) : (s.runEndReport n).cash = s.cash := rfl
@[simp] theorem State.giveUpReprints_cash (l : List DirEntry) (s : State) : (s.giveUpReprints l).cash = s.cash := by
  induction l generalizing s with
  | nil => rfl
  | cons a l ih => simp [State.giveUpReprints, ih]
@[simp] theorem State.discardVoid_cash (e : Fin 2) (s : State) : (s.discardVoid e).cash = s.cash := by
  simp [State.discardVoid]
@[simp] theorem State.placeOrder_cash (n : Nat) (retry : Bool) (excluded : Option (Fin 2)) (s : State) :
    (s.placeOrder n retry excluded).cash = s.cash := by
  simp only [State.placeOrder]; split <;> simp
@[simp] theorem State.holdDecision_cash (e : Fin 2) (s : State) : (s.holdDecision e).cash = s.cash := rfl
@[simp] theorem State.holdTest_cash (e : Fin 2) (s : State) : (s.holdTest e).cash = s.cash := rfl
@[simp] theorem State.holdArrival_cash (e : Fin 2) (s : State) : (s.holdArrival e).cash = s.cash := rfl
@[simp] theorem State.wake_cash (e : Fin 2) (s : State) : (s.wake e).cash = s.cash := by
  simp [State.wake]
@[simp] theorem State.wakeEngine_cash (e : Fin 2) (s : State) : (s.wakeEngine e).cash = s.cash := by
  simp [State.wakeEngine]
@[simp] theorem State.answerHeld_cash (e : Fin 2) (s : State) : (s.answerHeld e).cash = s.cash := by
  simp [State.answerHeld]
@[simp] theorem State.retryAwaiting_cash (s : State) : s.retryAwaiting.cash = s.cash := by
  simp [State.retryAwaiting]
@[simp] theorem State.startPush_cash (e : Fin 2) (r : Run) (saved : SavedAs) (s : State) : (s.startPush e r saved).cash = s.cash := rfl
@[simp] theorem State.startPop_cash (e : Fin 2) (s : State) : (s.startPop e).cash = s.cash := rfl
@[simp] theorem State.holdOffer_cash (e : Fin 2) (s : State) : (s.holdOffer e).cash = s.cash := by
  simp [State.holdOffer]
@[simp] theorem State.deferDecision_cash (e : Fin 2) (s : State) : (s.deferDecision e).cash = s.cash := by
  simp [State.deferDecision]
@[simp] theorem State.decision_cash (e : Fin 2) (s : State) : (s.decision e).cash = s.cash := by
  simp only [State.decision]; (repeat' split) <;> simp
@[simp] theorem State.arrival_cash (e : Fin 2) (s : State) : (s.arrival e).cash = s.cash := by
  simp only [State.arrival]; split <;> simp
@[simp] theorem State.takeRun_cash (e : Fin 2) (r : Run) (s : State) : (s.takeRun e r).cash = s.cash := rfl
@[simp] theorem State.choose_cash (e : Fin 2) (s : State) : (s.choose e).cash = s.cash := by
  simp only [State.choose]; (repeat' split) <;> simp
@[simp] theorem State.handPrint_cash (e : Fin 2) (s : State) : (s.handPrint e).cash = s.cash := by
  simp only [State.handPrint]; (repeat' split) <;> simp
@[simp] theorem State.blockActive_cash (e : Fin 2) (w : Awaited) (s : State) : (s.blockActive e w).cash = s.cash := by
  simp [State.blockActive]
@[simp] theorem State.nextItem_cash (e : Fin 2) (r : Run) (s : State) : (s.nextItem e r).cash = s.cash := by
  simp only [State.nextItem]; (repeat' split) <;> simp
@[simp] theorem State.grantAnswered_cash (e : Fin 2) (p : Print) (a : GrantAnswer) (s : State) : (s.grantAnswered e p a).cash = s.cash := by
  simp only [State.grantAnswered]; split <;> simp
@[simp] theorem State.parkTest_cash (e : Fin 2) (s : State) : (s.parkTest e).cash = s.cash := by
  simp only [State.parkTest]; split <;> simp
@[simp] theorem State.endActive_cash (e : Fin 2) (cause : RunCause) (s : State) : (s.endActive e cause).cash = s.cash := by
  simp only [State.endActive]; split <;> simp
@[simp] theorem State.pushDone_cash (e : Fin 2) (pos : Nat) (r : Run) (why : SavedAs) (s : State) : (s.pushDone e pos r why).cash = s.cash := by
  simp [State.pushDone]
@[simp] theorem State.pushFailed_cash (e : Fin 2) (pos : Nat) (r : Run) (why : SavedAs) (s : State) :
    (s.pushFailed e pos r why).cash = s.cash := by
  simp only [State.pushFailed]; split <;> split <;> simp
@[simp] theorem State.pushWritten_cash (e : Fin 2) (ok : Bool) (s : State) : (s.pushWritten e ok).cash = s.cash := by
  simp only [State.pushWritten]; split <;> simp
@[simp] theorem State.loseRun_cash (e : Fin 2) (d : DirEntry) (cause : RunCause) (s : State) : (s.loseRun e d cause).cash = s.cash := by
  simp [State.loseRun]
@[simp] theorem State.popRead_cash (e : Fin 2) (ok : Bool) (bytes : List Byte) (s : State) : (s.popRead e ok bytes).cash = s.cash := by
  simp only [State.popRead]; split <;> simp
@[simp] theorem State.noticeAt_cash (e : Fin 2) (n : Nat) (w : Awaited) (s : State) : (s.noticeAt e n w).cash = s.cash := by
  simp [State.noticeAt]
@[simp] theorem State.schedEnd_cash (e : Fin 2) (n : Nat) (cause : RunCause) (s : State) : (s.schedEnd e n cause).cash = s.cash := by
  unfold State.schedEnd
  extract_lets x queued stack voided pushing active underWay ended
  clear_value ended
  split
  · rfl
  · cases ended <;> simp +zetaDelta
@[simp] theorem State.evacuate_cash (t : Ticket) (engine : Nat) (s : State) : (s.evacuate t engine).cash = s.cash := by
  simp only [State.evacuate]; split <;> simp
@[simp] theorem State.evacuated_cash (t : Ticket) (count : Nat) (s : State) : (s.evacuated t count).cash = s.cash := rfl

/-! ## The tender link -/

@[simp] theorem State.discardFrame_cash (s : State) : s.discardFrame.cash = s.cash := by
  simp [State.discardFrame]
@[simp] theorem State.frameAssembled_cash (f : List Byte) (s : State) : (s.frameAssembled f).cash = s.cash := by
  simp [State.frameAssembled]
@[simp] theorem State.receiveByte_cash (b : Byte) (s : State) : (s.receiveByte b).cash = s.cash := by
  simp only [State.receiveByte]; split <;> simp
@[simp] theorem State.receiveGap_cash (s : State) : s.receiveGap.cash = s.cash := by
  simp [State.receiveGap]
@[simp] theorem State.lineBytes_cash (bytes : List Byte) (s : State) : (s.lineBytes bytes).cash = s.cash := by
  simp only [State.lineBytes]; split
  · simp [State.foldl_cash _ fun s (b : Byte) => s.receiveByte_cash b]
  · rfl
@[simp] theorem State.loopedFrame_cash (f : List Byte) (s : State) : (s.loopedFrame f).cash = s.cash := by
  simp [State.loopedFrame]
@[simp] theorem State.emitTender_cash (event : TenderEvent) (prev new : Option TermState) (seq : Nat) (s : State) :
    (s.emitTender event prev new seq).cash = s.cash := rfl
@[simp] theorem State.emitRequest_cash (event : PayEvent) (e : TenderEntry) (seq : Nat) (mark : Option PayMark) (s : State) :
    (s.emitRequest event e seq mark).cash = s.cash := rfl
@[simp] theorem State.emitResult_cash (event : PayEvent) (order seq : Nat) (kind : RequestKind) (r : TenderResult) (whole : Bool)
    (mark : Option PayMark) (s : State) :
    (s.emitResult event order seq kind r whole mark).cash = s.cash := rfl
@[simp] theorem State.attendTender_cash (event : TenderEvent) (prev new : Option TermState) (s : State) :
    (s.attendTender event prev new).cash = s.cash := by
  simp [State.attendTender]
@[simp] theorem State.stateFrame_cash (code : TermState) (s : State) : (s.stateFrame code).cash = s.cash := by
  simp [State.stateFrame]
@[simp] theorem State.linkSilent_cash (s : State) : s.linkSilent.cash = s.cash := by
  simp only [State.linkSilent]; split <;> simp
@[simp] theorem State.lateResult_cash (seq : Nat) (r : TenderResult) (s : State) : (s.lateResult seq r).cash = s.cash := by
  simp only [State.lateResult]; split <;> simp
@[simp] theorem State.unawaitedQuery_cash (seq : Nat) (k : PayResult) (s : State) : (s.unawaitedQuery seq k).cash = s.cash := rfl
@[simp] theorem State.startFrame_cash (what : TxFor) (seq kind : Nat) (payload : List Byte) (s : State) :
    (s.startFrame what seq kind payload).cash = s.cash := rfl
@[simp] theorem State.startQuery_cash (o : Outstanding) (s : State) : (s.startQuery o).cash = s.cash := rfl
@[simp] theorem State.startTest_cash (d : TestSend) (s : State) : (s.startTest d).cash = s.cash := rfl
@[simp] theorem State.takeDeferred_cash (s : State) : s.takeDeferred.cash = s.cash := by
  simp [State.takeDeferred]
@[simp] theorem State.testSent_cash (bytes : List Byte) (s : State) : (s.testSent bytes).cash = s.cash := by
  simp only [State.testSent]; split <;> simp
@[simp] theorem State.transmitEnded_cash (s : State) : s.transmitEnded.cash = s.cash := by
  simp only [State.transmitEnded]; (repeat' split) <;> simp
@[simp] theorem State.responseExpired_cash (s : State) : s.responseExpired.cash = s.cash := by
  simp only [State.responseExpired]; (repeat' split) <;> simp
@[simp] theorem State.loopClose_cash (t : Ticket) (mode : Nat) (s : State) : (s.loopClose t mode).cash = s.cash := by
  simp [State.loopClose]
@[simp] theorem State.loopOpen_cash (t : Ticket) (s : State) : (s.loopOpen t).cash = s.cash := by
  simp [State.loopOpen]
@[simp] theorem State.testSend_cash (t : Ticket) (count : Nat) (s : State) : (s.testSend t count).cash = s.cash := by
  simp [State.testSend]
@[simp] theorem State.insertError_cash (t : Ticket) (s : State) : (s.insertError t).cash = s.cash := by
  simp [State.insertError]

/-! ## Timers -/

@[simp] theorem State.advance_cash (t : Option Nat) (s : State) : (s.advance t).cash = s.cash := by
  simp only [State.advance]; split <;> simp

/-! ## A millisecond -/

@[simp] theorem State.sampleCards_cash (s : State) : s.sampleCards.cash = s.cash := by
  simp [State.sampleCards]
/-! ## The order table, where it makes no change of an order's state -/

@[simp] theorem State.forLiveOrder_cash (t : Ticket) (kind : Nat) {f : State → State} (hf : ∀ v, (f v).cash = v.cash) (s : State) :
    (s.forLiveOrder t kind f).cash = s.cash := by
  simp [State.forLiveOrder, hf]
@[simp] theorem State.freeOrder_cash (o : Order) (s : State) : (s.freeOrder o).cash = s.cash := rfl
@[simp] theorem State.closeNow_cash (n seq : Nat) (s : State) : (s.closeNow n seq).cash = s.cash := by
  simp only [State.closeNow]; split <;> simp
@[simp] theorem State.recordRequest_cash (n : Nat) (r : OrderRequest) (ticket : Option Ticket) (s : State) :
    (s.recordRequest n r ticket).cash = s.cash := by
  simp only [State.recordRequest]; split <;> simp
@[simp] theorem State.chooseCourse_cash (n seq : Nat) (o : Order) (s : State) : (s.chooseCourse n seq o).cash = s.cash := by
  simp only [State.chooseCourse]; split <;> simp
@[simp] theorem State.openOrder_cash (t : Ticket) (station cls profile finish takenAt : Nat) (s : State) :
    (s.openOrder t station cls profile finish takenAt).cash = s.cash := by
  simp [State.openOrder]
@[simp] theorem State.addItems_cash (t : Ticket) (items : List ItemDesc) (s : State) : (s.addItems t items).cash = s.cash := by
  simp only [State.addItems]; (repeat' split) <;> simp
@[simp] theorem State.stagingReport_cash (n item : Nat) (r : StagingReport) (s : State) : (s.stagingReport n item r).cash = s.cash := by
  simp only [State.stagingReport]; (repeat' split) <;> simp
@[simp] theorem State.releaseAnswer_cash (n seq : Nat) (s : State) : (s.releaseAnswer n seq).cash = s.cash := by
  simp only [State.releaseAnswer]; split <;> simp
@[simp] theorem State.takenWritten_cash (s : State) : s.takenWritten.cash = s.cash := by
  simp only [State.takenWritten]; split <;> simp
@[simp] theorem State.placeKind_cash (n kind : Nat) (retry : Bool) (excluded : Option (Fin 2)) (s : State) :
    (s.placeKind n kind retry excluded).cash = s.cash := by
  simp only [State.placeKind]; (repeat' split) <;> simp
@[simp] theorem State.placeDone_cash (n : Nat) (s : State) : (s.placeDone n).cash = s.cash := by
  simp only [State.placeDone]; split <;> simp
@[simp] theorem State.startRequest_cash (e : TenderEntry) (s : State) : (s.startRequest e).cash = s.cash := by
  simp [State.startRequest]
@[simp] theorem State.gapElapsed_cash (s : State) : s.gapElapsed.cash = s.cash := by
  simp only [State.gapElapsed]; (repeat' split) <;> simp
@[simp] theorem State.exchangeDone_cash (tag : ReqTag) (b : List Byte) (s : State) : (s.exchangeDone tag b).cash = s.cash := by
  cases tag <;> simp [State.exchangeDone]
@[simp] theorem State.clientEnd_cash (tag : ReqTag) (ok : Bool) (data : List Byte) (s : State) : (s.clientEnd tag ok data).cash = s.cash := by
  cases tag <;> simp [State.clientEnd]
@[simp] theorem State.finishBurst_cash (r : BurstResult) (s : State) : (s.finishBurst r).cash = s.cash := by
  simp only [State.finishBurst]; (repeat' split) <;> simp
@[simp] theorem State.burstTimedOut_cash (s : State) : s.burstTimedOut.cash = s.cash := by
  simp only [State.burstTimedOut]; split <;> simp
@[simp] theorem State.enqueueWait_cash (j : Job) (s : State) : (s.enqueueWait j).cash = s.cash := by simp [State.enqueueWait]
theorem State.housekeep_cash {s t : State} (h : s.housekeep = some t) : t.cash = s.cash := by
  unfold State.housekeep at h
  split_ifs at h <;> cases h <;> simp
/-- A credit changes the record of its order alone. -/
theorem State.creditOrder_cash {n count value k : Nat} {s u : State} (h : s.creditOrder n count value = some (k, u)) : u.cash = s.cash := by
  simp only [State.creditOrder] at h
  split at h
  · cases h
  · split at h
    · cases h
    · cases h; rfl
end Sys2Proof.Machine
end

section
/-! SUPPORT. Inhibit follows the four conditions of R162 at every step: every change of the cash acceptor sets it again, or touches none of the
conditions. Then O58. -/

namespace Sys2Proof.Machine

/-! ## What R162 says of the acceptor -/

/-- Inhibit is as R162 sets it. -/
def Cash.InhibitSound (c : Cash) : Prop := c.inhibit = !c.mayRelease

theorem Cash.obeysR162_iff (c : Cash) : c.obeysR162 ↔ c.InhibitSound := by
  have hmay : c.mayRelease = true ↔ c.phase = .bound ∧ c.lineFault = false ∧ c.seen < c.need ∧ c.list = [] := by
    simp [Cash.mayRelease, and_assoc]
  unfold Cash.InhibitSound
  rw [Cash.obeysR162, ← hmay]
  cases c.inhibit <;> cases c.mayRelease <;> decide

/-- Inhibit set again is as R162 sets it. -/
@[simp] theorem Cash.setInhibit_inhibitSound (c : Cash) : c.setInhibit.InhibitSound := rfl

@[simp] theorem Cash.inhibitSound_ite (p : Prop) [Decidable p] (c d : Cash) :
    (if p then c else d).InhibitSound ↔ if p then c.InhibitSound else d.InhibitSound := by
  split <;> rfl

/-- R162 reads the binding, the line fault, the figures and the list alone. -/
theorem Cash.InhibitSound.of_conditions {c d : Cash} (h : c.InhibitSound) (hi : d.inhibit = c.inhibit) (hr : d.mayRelease = c.mayRelease) :
    d.InhibitSound := by
  unfold Cash.InhibitSound
  rw [hi, hr]
  exact h

section
variable {s : State}

/-! ## Notices -/

@[simp] theorem State.openWindow_inhibit (why : CashReason) (h : s.cash.InhibitSound) : (s.openWindow why).cash.InhibitSound := by
  simp -implicitDefEqProofs [State.openWindow, h]
@[simp] theorem State.departure_inhibit (n : Nat) (funded : Bool) (h : s.cash.InhibitSound) : (s.departure n funded).cash.InhibitSound := by
  simp -implicitDefEqProofs [State.departure, h]
@[simp] theorem State.holdNotice_inhibit (n need : Nat) (h : s.cash.InhibitSound) : (s.holdNotice n need).cash.InhibitSound := by
  simp -implicitDefEqProofs [State.holdNotice, h]

/-! ## The order table -/

@[simp] theorem State.orderTo_inhibit (n : Nat) (new : OrderState) (cause : OrderCause) (seq : Nat) (h : s.cash.InhibitSound) :
    (s.orderTo n new cause seq).cash.InhibitSound := by
  simp only [State.orderTo]; split <;> simp -implicitDefEqProofs [h]
@[simp] theorem State.settleOrder_inhibit (n : Nat) (cause : OrderCause) (seq : Nat) (h : s.cash.InhibitSound) :
    (s.settleOrder n cause seq).cash.InhibitSound := by
  simp only [State.settleOrder]; split <;> simp -implicitDefEqProofs [h]
@[simp] theorem State.accountedTest_inhibit (n seq : Nat) (h : s.cash.InhibitSound) : (s.accountedTest n seq).cash.InhibitSound := by
  simp only [State.accountedTest]; split <;> simp -implicitDefEqProofs [h]
@[simp] theorem State.quietTest_inhibit (n seq : Nat) (h : s.cash.InhibitSound) : (s.quietTest n seq).cash.InhibitSound := by
  simp only [State.quietTest]; split <;> simp -implicitDefEqProofs [h]
@[simp] theorem State.fundingTest_inhibit (n seq : Nat) (h : s.cash.InhibitSound) : (s.fundingTest n seq).cash.InhibitSound := by
  simp only [State.fundingTest]; split <;> simp -implicitDefEqProofs [h]
@[simp] theorem State.returnTest_inhibit (n : Nat) (cause : OrderCause) (seq : Nat) (h : s.cash.InhibitSound) :
    (s.returnTest n cause seq).cash.InhibitSound := by
  simp only [State.returnTest]; split <;> simp -implicitDefEqProofs [h]
@[simp] theorem State.quoteOrder_inhibit (t : Ticket) (h : s.cash.InhibitSound) : (s.quoteOrder t).cash.InhibitSound := by
  simp only [State.quoteOrder]; (repeat' split) <;> simp -implicitDefEqProofs [h]
@[simp] theorem State.zeroQuoteFunded_inhibit (n : Nat) (t : Ticket) (h : s.cash.InhibitSound) : (s.zeroQuoteFunded n t).cash.InhibitSound := by
  simp -implicitDefEqProofs [State.zeroQuoteFunded, h]
@[simp] theorem State.raiseFunds_inhibit (n seq : Nat) (h : s.cash.InhibitSound) : (s.raiseFunds n seq).cash.InhibitSound := by
  simp only [State.raiseFunds]; split <;> simp -implicitDefEqProofs [h]
@[simp] theorem State.payCard_inhibit (t : Ticket) (h : s.cash.InhibitSound) : (s.payCard t).cash.InhibitSound := by
  simp only [State.payCard]; split <;> simp -implicitDefEqProofs [h]
@[simp] theorem State.holdAnswer_inhibit (n seq : Nat) (ticket : Option Ticket) (approved : Option (Nat × Nat)) (whole : Bool)
    (h : s.cash.InhibitSound) : (s.holdAnswer n seq ticket approved whole).cash.InhibitSound := by
  simp only [State.holdAnswer]; split <;> simp -implicitDefEqProofs [h]
@[simp] theorem State.orderUnresolved_inhibit (n seq : Nat) (ticket : Option Ticket) (reserved : Bool) (h : s.cash.InhibitSound) :
    (s.orderUnresolved n seq ticket reserved).cash.InhibitSound := by
  simp only [State.orderUnresolved]; (repeat' split) <;> simp -implicitDefEqProofs [h]
@[simp] theorem State.captureAnswer_inhibit (n seq : Nat) (done : Bool) (h : s.cash.InhibitSound) :
    (s.captureAnswer n seq done).cash.InhibitSound := by
  simp only [State.captureAnswer]; split <;> simp -implicitDefEqProofs [h]
@[simp] theorem State.resumeOrder_inhibit (n : Nat) (new : OrderState) (cause : OrderCause) (seq : Nat) (h : s.cash.InhibitSound) :
    (s.resumeOrder n new cause seq).cash.InhibitSound := by
  simp -implicitDefEqProofs [State.resumeOrder, h]
@[simp] theorem State.applyReconciled_inhibit (n : Nat) (o : Order) (u : UnresolvedRequest) (a : Reconciled) (cause : OrderCause) (seq : Nat)
    (h : s.cash.InhibitSound) : (s.applyReconciled n o u a cause seq).cash.InhibitSound := by
  cases a <;> simp -implicitDefEqProofs [State.applyReconciled, h]
@[simp] theorem State.resolveOrder_inhibit (t : Ticket) (answer reference amount : Nat) (h : s.cash.InhibitSound) :
    (s.resolveOrder t answer reference amount).cash.InhibitSound := by
  simp only [State.resolveOrder]; (repeat' split) <;> simp -implicitDefEqProofs [h]
@[simp] theorem State.acceptBind_inhibit (n seq : Nat) (h : s.cash.InhibitSound) : (s.acceptBind n seq).cash.InhibitSound := by
  simp -implicitDefEqProofs [State.acceptBind, h]
@[simp] theorem State.clearBound_inhibit (n : Nat) (h : s.cash.InhibitSound) : (s.clearBound n).cash.InhibitSound := by
  simp only [State.clearBound]; split <;> simp -implicitDefEqProofs [h]
@[simp] theorem State.grantPrint_inhibit (e : Fin 2) (p : Print) (h : s.cash.InhibitSound) : (s.grantPrint e p).cash.InhibitSound := by
  simp only [State.grantPrint]; split <;> simp -implicitDefEqProofs [h]
@[simp] theorem State.printReport_inhibit (n item : Nat) (answer : Option CopyAnswer) (h : s.cash.InhibitSound) :
    (s.printReport n item answer).cash.InhibitSound := by
  simp -implicitDefEqProofs [State.printReport, h]
@[simp] theorem State.reprintGivenUp_inhibit (n item : Nat) (h : s.cash.InhibitSound) : (s.reprintGivenUp n item).cash.InhibitSound := by
  simp -implicitDefEqProofs [State.reprintGivenUp, h]
@[simp] theorem State.dropItem_inhibit (t : Ticket) (item : Nat) (h : s.cash.InhibitSound) : (s.dropItem t item).cash.InhibitSound := by
  simp only [State.dropItem]; (repeat' split) <;> simp -implicitDefEqProofs [h]
@[simp] theorem State.cancelOrder_inhibit (o : Order) (cause : CancelCause) (seq : Nat) (h : s.cash.InhibitSound) :
    (s.cancelOrder o cause seq).cash.InhibitSound := by
  simp -implicitDefEqProofs [State.cancelOrder, h]
@[simp] theorem State.cancelTicket_inhibit (t : Ticket) (h : s.cash.InhibitSound) : (s.cancelTicket t).cash.InhibitSound := by
  simp only [State.cancelTicket]; (repeat' split) <;> simp -implicitDefEqProofs [h]
@[simp] theorem State.abandonExpiry_inhibit (n : Nat) (h : s.cash.InhibitSound) : (s.abandonExpiry n).cash.InhibitSound := by
  simp only [State.abandonExpiry]; (repeat' split) <;> simp -implicitDefEqProofs [h]

/-! ## The cash acceptor -/

@[simp] theorem State.popCash_inhibit (s : State) : s.popCash.cash.InhibitSound := rfl
@[simp] theorem State.checkBinds_inhibit (h : s.cash.InhibitSound) : s.checkBinds.cash.InhibitSound := by
  rw [s.checkBinds_still.2]
  exact h.of_conditions rfl rfl
@[simp] theorem State.pulseCompleted_inhibit (length : Nat) (h : s.cash.InhibitSound) : (s.pulseCompleted length).cash.InhibitSound := by
  simp -implicitDefEqProofs [State.pulseCompleted, h]
@[simp] theorem State.lineFaultSet_inhibit (h : s.cash.InhibitSound) : s.lineFaultSet.cash.InhibitSound := by
  simp -implicitDefEqProofs [State.lineFaultSet, h]
@[simp] theorem State.lineFaultCleared_inhibit (h : s.cash.InhibitSound) : s.lineFaultCleared.cash.InhibitSound := by
  simp -implicitDefEqProofs [State.lineFaultCleared, h]
@[simp] theorem State.cashFaultApplied_inhibit (h : s.cash.InhibitSound) : s.cashFaultApplied.cash.InhibitSound := by
  simp only [State.cashFaultApplied]; split <;> simp -implicitDefEqProofs [h]
@[simp] theorem State.checkBind_inhibit (t : Ticket) (h : s.cash.InhibitSound) : (s.checkBind t).cash.InhibitSound := by
  simp only [State.checkBind]; (repeat' split) <;> simp -implicitDefEqProofs [h]
@[simp] theorem State.cashBindApplied_inhibit (h : s.cash.InhibitSound) : s.cashBindApplied.cash.InhibitSound := by
  simp only [State.cashBindApplied]; split <;> simp -implicitDefEqProofs [h]
@[simp] theorem State.payCashUnbind_inhibit (t : Ticket) (h : s.cash.InhibitSound) : (s.payCashUnbind t).cash.InhibitSound := by
  simp only [State.payCashUnbind]; split <;> simp -implicitDefEqProofs [h]
@[simp] theorem State.windowExpired_inhibit (h : s.cash.InhibitSound) : s.windowExpired.cash.InhibitSound := by
  simp only [State.windowExpired]; split <;> simp -implicitDefEqProofs [h]
@[simp] theorem State.cashCreditApplied_inhibit (h : s.cash.InhibitSound) : s.cashCreditApplied.cash.InhibitSound := by
  simp only [State.cashCreditApplied]; (repeat' split) <;> simp -implicitDefEqProofs [h]
@[simp] theorem State.cashStrayApplied_inhibit (h : s.cash.InhibitSound) : s.cashStrayApplied.cash.InhibitSound := by
  simp only [State.cashStrayApplied]; split <;> simp -implicitDefEqProofs [h]
@[simp] theorem State.windowEndApplied_inhibit (h : s.cash.InhibitSound) : s.windowEndApplied.cash.InhibitSound := by
  simp only [State.windowEndApplied]; split <;> simp -implicitDefEqProofs [h]

/-! ## Settings -/

/-- The first RUNNING turns the sampling on and takes the pulse value, which R162 does not read (R157, R185). -/
@[simp] theorem State.firstRunning_inhibit (h : s.cash.InhibitSound) : s.firstRunning.cash.InhibitSound :=
  h.of_conditions rfl rfl
@[simp] theorem State.settingsApplied_inhibit (h : s.cash.InhibitSound) : s.settingsApplied.cash.InhibitSound := by
  simp only [State.settingsApplied]; (repeat' split) <;> simp -implicitDefEqProofs [h]

/-! ## The tender link -/

@[simp] theorem State.withdrawHold_inhibit (n : Nat) (h : s.cash.InhibitSound) : (s.withdrawHold n).cash.InhibitSound := by
  simp only [State.withdrawHold]; split <;> simp -implicitDefEqProofs [h]
@[simp] theorem State.handResult_inhibit (e : TenderEntry) (seq : Nat) (r : TenderResult) (h : s.cash.InhibitSound) :
    (s.handResult e seq r).cash.InhibitSound := by
  cases r <;> simp -implicitDefEqProofs [State.handResult, h]
@[simp] theorem State.applyResult_inhibit (o : Outstanding) (r : TenderResult) (h : s.cash.InhibitSound) :
    (s.applyResult o r).cash.InhibitSound := by
  simp -implicitDefEqProofs [State.applyResult, h]
@[simp] theorem State.requestUnresolved_inhibit (o : Outstanding) (h : s.cash.InhibitSound) : (s.requestUnresolved o).cash.InhibitSound := by
  simp -implicitDefEqProofs [State.requestUnresolved, h]
theorem State.offerLate_inhibit (seq : Nat) (r : TenderResult) (h : s.cash.InhibitSound) : (s.offerLate seq r).2.cash.InhibitSound := by
  simp only [State.offerLate]; (repeat' split) <;> simp -implicitDefEqProofs [h]
@[simp] theorem State.unawaited_inhibit (seq : Nat) (r : TenderResult) (h : s.cash.InhibitSound) : (s.unawaited seq r).cash.InhibitSound := by
  have ho := State.offerLate_inhibit seq r h
  simp only [State.unawaited]
  (repeat' split) <;> simp_all
@[simp] theorem State.resultFrame_inhibit (seq : Nat) (r : TenderResult) (h : s.cash.InhibitSound) :
    (s.resultFrame seq r).cash.InhibitSound := by
  simp only [State.resultFrame]; split <;> simp -implicitDefEqProofs [h]
@[simp] theorem State.pendingAnswer_inhibit (o : Outstanding) (h : s.cash.InhibitSound) : (s.pendingAnswer o).cash.InhibitSound := by
  simp -implicitDefEqProofs [State.pendingAnswer, h]
@[simp] theorem State.repeatAnswer_inhibit (o : Outstanding) (r : TenderResult) (h : s.cash.InhibitSound) :
    (s.repeatAnswer o r).cash.InhibitSound := by
  simp -implicitDefEqProofs [State.repeatAnswer, h]
@[simp] theorem State.processHead_inhibit (h : s.cash.InhibitSound) : s.processHead.cash.InhibitSound := by
  simp only [State.processHead]; (repeat' split) <;> simp -implicitDefEqProofs [h]
@[simp] theorem State.queryExpired_inhibit (h : s.cash.InhibitSound) : s.queryExpired.cash.InhibitSound := by
  simp only [State.queryExpired]; (repeat' split) <;> simp -implicitDefEqProofs [h]

/-! ## Requests in course -/

@[simp] theorem applyCmd_inhibit (c : Instr) (h : s.cash.InhibitSound) : (applyCmd c s).cash.InhibitSound := by
  cases c <;> simp -implicitDefEqProofs [applyCmd, h]
@[simp] theorem applyAct_inhibit (a : Act) (h : s.cash.InhibitSound) : (applyAct a s).cash.InhibitSound := by
  cases a <;> simp -implicitDefEqProofs [applyAct, h]
@[simp] theorem State.attempt_inhibit (j : Job) (h : s.cash.InhibitSound) : (s.attempt j).cash.InhibitSound :=
  applyAct_inhibit (s := { s with agenda := [] }) j.act h
@[simp] theorem State.process_inhibit (j : Job) (h : s.cash.InhibitSound) : (s.process j).cash.InhibitSound := by
  simp -implicitDefEqProofs [State.process, h]
/-- What follows a change keeps inhibit as R162 says. -/
theorem State.drain_inhibit (k : Nat) : ∀ s : State, s.cash.InhibitSound → (State.drain k s).cash.InhibitSound := by
  induction k with
  | zero => exact fun _ h => h
  | succ k ih =>
    intro s h
    simp only [State.drain]
    split
    · rename_i j rest _
      exact ih _ (State.process_inhibit (s := { s with agenda := rest }) j h)
    · split
      · rename_i t ht
        exact ih t (State.housekeep_cash ht ▸ h)
      · exact h
@[simp] theorem State.settle_inhibit (h : s.cash.InhibitSound) : s.settle.cash.InhibitSound := State.drain_inhibit _ s h
@[simp] theorem State.perform_inhibit (a : Act) (h : s.cash.InhibitSound) : (s.perform a).cash.InhibitSound :=
  State.settle_inhibit (s := s.push a) h
@[simp] theorem State.serveWaiting_inhibit (h : s.cash.InhibitSound) : s.serveWaiting.cash.InhibitSound := by
  have ha : ∀ (j : Job) (l : List Job), (State.attempt j { s with waiting := l }).cash.InhibitSound :=
    fun j l => State.attempt_inhibit (s := { s with waiting := l }) j h
  simp only [State.serveWaiting, State.served]
  split
  · exact h
  · split_ifs
    · exact ha _ _
    · cases s.freeFollower _ _ with
      | none => exact h
      | some x => exact ha _ _

/-! ## A millisecond -/

/-- A sample of the pulse line moves the run counts, which R162 does not read, or completes a run (R159, R160). -/
@[simp] theorem State.samplePulse_inhibit (h : s.cash.InhibitSound) : s.samplePulse.cash.InhibitSound := by
  simp only [State.samplePulse]
  split
  · exact h
  · split
    · exact h.of_conditions rfl rfl
    · split
      · exact h.of_conditions rfl rfl
      · split
        · exact State.pulseCompleted_inhibit _ h
        · exact h
@[simp] theorem State.tick_inhibit (h : s.cash.InhibitSound) : s.tick.cash.InhibitSound := by
  simp -implicitDefEqProofs [State.tick, h]

/-! ## Commands and steps -/

theorem State.taking_inhibit (t : Ticket) {f : State → State} (hf : ∀ v : State, v.cash.InhibitSound → (f v).cash.InhibitSound)
    (h : s.cash.InhibitSound) : (s.taking t f).cash.InhibitSound := by
  unfold State.taking
  split
  · exact h
  · exact hf _ (by simpa -implicitDefEqProofs using h)

/-- A ticket's step made through the requests in course. -/
@[simp] theorem State.taking_perform_inhibit (t : Ticket) (a : Act) (h : s.cash.InhibitSound) :
    (s.taking t (State.perform a)).cash.InhibitSound :=
  State.taking_inhibit t (fun _ hv => State.perform_inhibit a hv) h

/-- A ticket's step that leaves the acceptor, made at once. -/
theorem State.taking_settle_inhibit (t : Ticket) {f : State → State} (hf : ∀ v, (f v).cash = v.cash) (h : s.cash.InhibitSound) :
    (s.taking t fun v => (f v).settle).cash.InhibitSound :=
  State.taking_inhibit t (fun v hv => State.settle_inhibit ((hf v).symm ▸ hv)) h

@[simp] theorem State.payCashBind_inhibit (t : Ticket) (h : s.cash.InhibitSound) : (s.payCashBind t).cash.InhibitSound := by
  simp -implicitDefEqProofs [State.payCashBind, h]

/-- Nothing is bound after a reset, and inhibit is ASSERTED (R188). -/
@[simp] theorem State.afterReset_inhibit (s : State) : s.afterReset.cash.InhibitSound := rfl
@[simp] theorem State.softReset_inhibit (s : State) : s.softReset.cash.InhibitSound := rfl

/-- Every command keeps inhibit as R162 says. -/
theorem exec_inhibit (c : Instr) (h : s.cash.InhibitSound) : ∃ v, exec c s = .next v ∧ v.cash.InhibitSound := by
  cases c with
  | softReset => exact ⟨_, rfl, State.softReset_inhibit s⟩
  | powerOnReset => exact ⟨_, rfl, State.afterReset_inhibit s⟩
  | linkReset => exact ⟨_, rfl, State.softReset_inhibit s⟩
  | scanTimerExpiry =>
    refine ⟨_, rfl, State.settle_inhibit ?_⟩
    split <;> simp -implicitDefEqProofs [h]
  | logLingerExpiry =>
    refine ⟨_, rfl, State.settle_inhibit ?_⟩
    split <;> simp -implicitDefEqProofs [h]
  | loadPrices t address => exact ⟨_, rfl, State.taking_settle_inhibit t (State.forLiveOrder_cash t _ (State.loadPrices_cash t address)) h⟩
  | loadTone t p k a => exact ⟨_, rfl, State.taking_settle_inhibit t (State.forLiveOrder_cash t _ (State.loadTone_cash t p k a)) h⟩
  | refreshSettings t => exact ⟨_, rfl, State.taking_settle_inhibit t (State.forLiveOrder_cash t _ (State.refreshSettings_cash t)) h⟩
  | readCounters t => exact ⟨_, rfl, State.taking_settle_inhibit t (State.forLiveOrder_cash t _ (State.readCounters_cash t)) h⟩
  | payCashBind t => exact ⟨_, rfl, State.taking_inhibit t (fun _ => State.payCashBind_inhibit t) h⟩
  | cardRead t slot item es =>
    refine ⟨_, rfl, ?_⟩
    split
    · exact h
    · exact State.taking_settle_inhibit t (State.cardRead_cash t item es _) h
  | _ => exact ⟨_, rfl, by simp -implicitDefEqProofs [h]⟩

/-- What the part does with no command waiting keeps inhibit as R162 says. -/
theorem idleStep_inhibit (h : s.cash.InhibitSound) : ∃ v, idleStep s = .next v ∧ v.cash.InhibitSound := by
  unfold idleStep
  split
  · exact ⟨_, rfl, State.settle_inhibit h⟩
  · split
    · rename_i a _
      exact ⟨_, rfl, State.perform_inhibit (s := s.modExch fun x => { x with handed := x.handed.tail }) a h⟩
    · split
      · exact exec_inhibit _ h
      · exact ⟨_, rfl, State.settle_inhibit (State.tick_inhibit h)⟩

/-- Every step keeps inhibit as R162 says. -/
theorem step_inhibit (h : s.cash.InhibitSound) : ∃ v, step s = .next v ∧ v.cash.InhibitSound := by
  unfold step
  split
  · rename_i c rest _
    exact exec_inhibit (s := { s with pending := rest }) c h
  · exact idleStep_inhibit h

end

/-- Settles O58: every change of a condition of R162 sets inhibit again, and every other change leaves the conditions and inhibit. -/
theorem inhibitFollowsR162 : Obligations.InhibitFollowsR162 := by
  intro s u h hu
  obtain ⟨v, hv, hs⟩ := step_inhibit ((Cash.obeysR162_iff _).mp h)
  cases hv.symm.trans hu
  exact (Cash.obeysR162_iff _).mpr hs

end Sys2Proof.Machine
end

section
/-! SUPPORT. The pulse line, its fault, and the settle window of a binding (R159, R160, R162 to R164, R167). O50, O51 and O53. -/

namespace Sys2Proof.Machine

/-! ## Steps that are made at once -/

/-- A quiet part's step of the acceptor that makes no request is made at once, and leaves the exchange controller's own course to follow. -/
theorem State.settle_still {s v : State} (h : s = v) (hq : v.quiet) : s.settle.still = v.still := by
  subst h
  exact (State.settle_follows s hq).still

/-! ## Pulses and the line fault (R159, R160, R164) -/

/-- Outside a settle window a pulse is for the bound order, or STRAY (R164). -/
theorem State.pulseDest_closed {s : State} (h : s.cash.phase ≠ .window) :
    s.pulseDest = if s.cash.phase = .bound then some s.cash.bound else none := by
  cases hp : s.cash.phase with
  | window => exact absurd hp h
  | _ => simp [State.pulseDest, hp]

/-- A low run of 1 to 499 samples that completes while the line is sampled and has no fault is a glitch, a credit pulse or invalid (R159). -/
theorem State.pulseCompleted_classed {length : Nat} {s : State} (hs : s.cash.sampling = true) (hf : s.cash.lineFault = false)
    (h1 : 1 ≤ length) (h2 : length ≤ 499) :
    s.pulseCompleted length =
      if length < 20 then (s.modCash fun c => { c with lowRun := 0, lineHigh := true }).count .glitch 1
      else if length ≤ 150 then s.modCash fun c => { c with lowRun := 0, lineHigh := true, list := joinCredit s.pulseDest c.list }
      else (s.modCash fun c => { c with lowRun := 0, lineHigh := true }).count .invalidPulses 1 := by
  have hrun : ¬ (length = 0 ∨ 499 < length) := by omega
  simp only [State.pulseCompleted, hs, hf, Bool.or_eq_true, beq_iff_eq, decide_eq_true_eq, if_neg hrun]
  rfl

/-- Settles O50: with the window closed the destination of a credit pulse is that of the statement. -/
theorem pulsesClassed : Obligations.PulsesClassed := by
  intro length s hq hs hf hphase h1 h2 dest
  have hdest : s.pulseDest = dest := State.pulseDest_closed hphase
  refine ⟨_, rfl, State.settle_still ((State.pulseCompleted_classed hs hf h1 h2).trans (by rw [hdest])) ?_⟩
  split
  · exact State.count_quiet _ _ hq
  · split
    · exact hq
    · exact State.count_quiet _ _ hq

/-- The FAULT event at the head of the list, with no ticket that waits for the list to empty (R160). -/
theorem State.cashFaultApplied_fault {rest : List CashItem} {s : State} (hlist : s.cash.list = .fault :: rest) (hwait : s.cash.bindWaiting = []) :
    let v := s.modCash fun c => { c with faultFlag := true, list := rest }
    s.cashFaultApplied = v.emit (.cash .fault 0 0 0 (some .acceptorFault) v.cash.inhibit) 0 0 0 := by
  intro v
  have hpop : (s.modCash fun c => { c with faultFlag := true }).popCash = v := by
    rw [State.modCash_popCash]
    simp [State.modCash, hlist, v]
  simp only [State.cashFaultApplied, hlist, hpop]
  exact State.checkBinds_none hwait

/-- Settles O51: the runs of samples change the acceptor alone, and the event at the head of the list brings its one outcome. -/
theorem lineFaults : Obligations.LineFaults := by
  intro s
  refine ⟨fun hq hs hf => ?_, fun hq hf => ?_, fun rest hc hlist hwait => ?_⟩
  · exact ⟨_, rfl, State.settle_still (by simp [State.lineFaultSet, hs, hf]) hq⟩
  · exact ⟨_, rfl, State.settle_still (by simp [State.lineFaultCleared, hf]) hq⟩
  · exact ⟨_, rfl, State.perform_still hc (State.cashFaultApplied_fault hlist hwait) hc.1 (by simp)⟩

/-! ## The settle window (R163, R167) -/

/-- PAY_CASH_UNBIND of the bound order opens the settle window (R163). -/
theorem State.payCashUnbind_bound {t : Ticket} {o : Order} {s : State} (ho : s.findOrder t.order = some o) (hphase : s.cash.phase = .bound)
    (hbound : s.cash.bound = t.order) :
    s.payCashUnbind t =
      (s.modCash fun c => { c with phase := .window, windowEnd := some (clockAt (s.clock + 500)), windowReason := .unbind }).endTicket t 9
        .ok 0 := by
  simp [State.payCashUnbind, State.openWindow, ho, hphase, hbound, Config.settleWindow, kindPayCashUnbind]

theorem Cash.endListed_eq_false {c : Cash} (h : CashItem.windowEnd ∉ c.list) : c.endListed = false := by
  simp only [Cash.endListed, List.any_eq_false, beq_iff_eq]
  rintro i hi rfl
  exact h hi

/-- The end of the settle window joins the list, when it does not stand there (R163). -/
theorem State.windowExpired_joins {t : Nat} {s : State} (hphase : s.cash.phase = .window) (hend : s.cash.windowEnd = some t)
    (hlisted : CashItem.windowEnd ∉ s.cash.list) (hreach : reached s.clock t = true) :
    s.windowExpired = s.modCash fun c => { c with list := c.list ++ [.windowEnd] } := by
  simp [State.windowExpired, hphase, hend, hreach, Cash.endListed_eq_false hlisted]

/-- A FUNDED order whose binding ends stays FUNDED: neither the return test nor the quiet test is for it (R13, R21). -/
theorem State.clearBound_funded {n : Nat} {o : Order} {s : State} (ho : s.findOrder n = some o) (hs : o.state = .funded)
    (hbound : o.cashBound = true) : s.clearBound n = s.modOrder n fun o => { o with cashBound := false } := by
  have hclear := State.findOrder_modOrder_self (fun o : Order => { o with cashBound := false }) (fun _ => rfl) ho
  simp [State.clearBound, State.returnTest, State.quietTest, ho, hbound, hclear, hs]

/-- The window's end event at the head of the list ends the binding of a FUNDED order. Inhibit is ASSERTED before and after the event leaves the list,
for nothing is bound (R162, R167). -/
theorem State.windowEndApplied_funded {o : Order} {rest : List CashItem} {s : State} (hlist : s.cash.list = .windowEnd :: rest)
    (hwait : s.cash.bindWaiting = []) (ho : s.findOrder s.cash.bound = some o) (hs : o.state = .funded) (hbound : o.cashBound = true) :
    let v := s.modCash fun c => { c with phase := .none, bound := 0, windowEnd := none, seen := 0, need := 0, list := rest }
    s.windowEndApplied =
      (v.emit (.cash .unbound 0 0 o.cash (some s.cash.windowReason) v.cash.inhibit) 0 s.cash.bound 0).modOrder s.cash.bound fun o =>
        { o with cashBound := false } := by
  intro v
  let w := s.modCash fun c => { c with phase := .none, bound := 0, windowEnd := none, seen := 0, need := 0 }
  have hclear : (w.emitCash .unbound s.cash.bound 0 0 o.cash (some s.cash.windowReason) 0).clearBound s.cash.bound = _ :=
    State.clearBound_funded ho hs hbound
  have hpop : w.popCash = v := by
    rw [State.modCash_popCash]
    simp [State.modCash, hlist, v]
  simp only [State.windowEndApplied, hlist, ho]
  rw [hclear]
  refine (State.checkBinds_none ?_).trans ?_
  · exact hwait
  · rw [← hpop]
    rfl

/-- Settles O53: the window opens, expires and ends in three steps of the acceptor, of which the last reaches the order as well. -/
theorem settleWindow : Obligations.SettleWindow := by
  intro s
  refine ⟨fun t ht => congrArg Host.Outcome.next (State.taking_of_not_takes ht _), fun t o hc ht ho hphase hbound => ?_,
    fun t hq hphase hend hlisted hreach => ?_, fun o rest hc hlist hwait ho hs hbound => ?_⟩
  · obtain ⟨a, ha⟩ := State.accept_findOrder t ho
    have hstep := State.payCashUnbind_bound ha (by simpa using hphase) (by simpa using hbound)
    rw [State.accept_clock] at hstep
    exact ⟨_, rfl, State.taking_perform_still hc ht hstep (State.accept_calm t hc).1 (by simp)⟩
  · have hat : s.windowAt = some t := by simp [State.windowAt, hphase, hend, Cash.endListed_eq_false hlisted]
    refine ⟨_, rfl, ?_⟩
    rw [hat, State.advance_reached hreach]
    exact State.settle_still (State.windowExpired_joins hphase hend hlisted hreach) hq
  · exact ⟨_, rfl, State.perform_still hc (State.windowEndApplied_funded hlist hwait ho hs hbound) hc.1 (by simp)⟩

end Sys2Proof.Machine
end

section
/-! SUPPORT. The places of the pending outcome queue (R178): outside the requests in course no operation takes one, and a request in course that would pass
the 16 places waits. O57. -/

namespace Sys2Proof.Machine

/-! ## Branches, lists and changes of the exchange controller -/

@[simp] theorem State.occupied_ite (c : Prop) [Decidable c] (s t : State) :
    (if c then s else t).occupied = if c then s.occupied else t.occupied := apply_ite State.occupied c s t

/-- A list of updates that each take no place takes none. -/
theorem State.foldl_occupied {α : Type} (f : State → α → State) (hf : ∀ s a, (f s a).occupied = s.occupied) (l : List α) (s : State) :
    (l.foldl f s).occupied = s.occupied := by
  induction l generalizing s with
  | nil => rfl
  | cons a l ih => rw [List.foldl_cons, ih, hf]

/-- A change of the exchange controller that leaves the outcomes and the places set aside takes no place. -/
@[simp] theorem State.modExch_occupied {f : Exchange → Exchange} {s : State} (ho : (f s.exch).outcomes = s.exch.outcomes)
    (hr : (f s.exch).reservedPlaces = s.exch.reservedPlaces) : (s.modExch f).occupied = s.occupied := by
  simp [State.occupied, ho, hr]

@[simp] theorem State.pushAll_occupied (l : List Act) (s : State) : (s.pushAll l).occupied = s.occupied := by
  simp [State.occupied]

/-! ## The clock -/

@[simp] theorem State.advanceTo_occupied (t : Nat) (s : State) : (s.advanceTo t).occupied = s.occupied := by
  unfold State.advanceTo; split <;> rfl
@[simp] theorem State.advance_occupied (t : Option Nat) (s : State) : (s.advance t).occupied = s.occupied := by
  cases t with
  | none => rfl
  | some t => exact s.advanceTo_occupied t

/-! ## Tickets -/

@[simp] theorem State.forLiveOrder_occupied (t : Ticket) (kind : Nat) {f : State → State} (hf : ∀ v, (f v).occupied = v.occupied) (s : State) :
    (s.forLiveOrder t kind f).occupied = s.occupied := by
  simp [State.forLiveOrder, hf]
@[simp] theorem State.endReads_occupied (code : ResultCode) (l : List ReadEntry) (s : State) : (s.endReads code l).occupied = s.occupied := by
  induction l generalizing s with
  | nil => rfl
  | cons a l ih => simp [State.endReads, ih]

/-! ## The cash acceptor -/

@[simp] theorem State.pulseCompleted_occupied (length : Nat) (s : State) : (s.pulseCompleted length).occupied = s.occupied := by
  simp [State.pulseCompleted]
@[simp] theorem State.lineFaultSet_occupied (s : State) : s.lineFaultSet.occupied = s.occupied := by
  simp [State.lineFaultSet]
@[simp] theorem State.lineFaultCleared_occupied (s : State) : s.lineFaultCleared.occupied = s.occupied := by
  simp [State.lineFaultCleared]
@[simp] theorem State.windowExpired_occupied (s : State) : s.windowExpired.occupied = s.occupied := by
  simp only [State.windowExpired]; split <;> simp
/-- A PAY_CASH_BIND that finds a BOUND event in the list ends (R161, log entry 31). -/
theorem State.checkBind_occupied {t : Ticket} {s : State} (h : s.cash.bindListed.isSome = true) : (s.checkBind t).occupied = s.occupied := by
  obtain ⟨n, hn⟩ := Option.isSome_iff_exists.mp h
  simp only [State.checkBind, hn]
  split <;> simp
@[simp] theorem State.samplePulse_occupied (s : State) : s.samplePulse.occupied = s.occupied := by
  simp only [State.samplePulse, State.occupied_ite, State.pulseCompleted_occupied]
  split_ifs <;> rfl

/-! ## The card intake unit -/

@[simp] theorem State.declareInsertion_occupied (n : Fin 4) (s : State) : (s.declareInsertion n).occupied = s.occupied := by
  simp [State.declareInsertion]
@[simp] theorem State.declareRemoval_occupied (n : Fin 4) (s : State) : (s.declareRemoval n).occupied = s.occupied := by
  simp [State.declareRemoval]
@[simp] theorem State.reportStaging_occupied (r : ReadEntry) (k : StagingReport) (s : State) : (s.reportStaging r k).occupied = s.occupied := by
  simp [State.reportStaging]
@[simp] theorem State.reportReadEnd_occupied (r : ReadEntry) (s : State) : (s.reportReadEnd r).occupied = s.occupied := by
  simp [State.reportReadEnd]
@[simp] theorem State.reportReadEnds_occupied (l : List ReadEntry) (s : State) : (s.reportReadEnds l).occupied = s.occupied := by
  induction l generalizing s with
  | nil => rfl
  | cons a l ih => simp [State.reportReadEnds, ih]
@[simp] theorem State.startRead_occupied (n : Fin 4) (s : State) : (s.startRead n).occupied = s.occupied := by
  simp only [State.startRead]; split <;> simp
@[simp] theorem State.endRead_occupied (n : Fin 4) (code : ResultCode) (s : State) : (s.endRead n code).occupied = s.occupied := by
  simp only [State.endRead]; split <;> simp
@[simp] theorem State.blockWritten_occupied (n : Fin 4) (s : State) : (s.blockWritten n).occupied = s.occupied := by
  simp only [State.blockWritten]; (repeat' split) <;> simp
@[simp] theorem State.blockWriteFailed_occupied (n : Fin 4) (s : State) : (s.blockWriteFailed n).occupied = s.occupied := by
  simp only [State.blockWriteFailed]; split <;> simp
@[simp] theorem State.cardRead_occupied (t : Ticket) (item : Nat) (extents : List Extent) (atTake : ReadCheck) (s : State) :
    (s.cardRead t item extents atTake).occupied = s.occupied := by
  simp only [State.cardRead]; split <;> simp
@[simp] theorem State.stopReadsAt_occupied (n : Fin 4) (s : State) : (s.stopReadsAt n).occupied = s.occupied := by
  simp [State.stopReadsAt]
@[simp] theorem State.stopReads_occupied (s : State) : s.stopReads.occupied = s.occupied := State.foldl_occupied _ (by simp) _ s
@[simp] theorem State.sampleCards_occupied (s : State) : s.sampleCards.occupied = s.occupied := by
  unfold State.sampleCards; split <;> rfl

/-! ## The counter block -/

@[simp] theorem State.readCounters_occupied (t : Ticket) (s : State) : (s.readCounters t).occupied = s.occupied := rfl
@[simp] theorem State.reportTimerExpired_occupied (s : State) : s.reportTimerExpired.occupied = s.occupied := by
  simp only [State.reportTimerExpired]; split <;> simp

/-! ## The exchange controller's scans and takes -/

@[simp] theorem State.announce_occupied (s : State) : s.announce.occupied = s.occupied :=
  (State.attend_occupied .log _).trans (State.modExch_occupied rfl rfl)
@[simp] theorem State.notifyTest_occupied (s : State) : s.notifyTest.occupied = s.occupied := by
  simp only [State.notifyTest]; (repeat' split) <;> simp
@[simp] theorem State.readHeader_occupied (slot : Nat) (found : List Header) (s : State) : (s.readHeader slot found).occupied = s.occupied := rfl
@[simp] theorem State.startScan_occupied (s : State) : s.startScan.occupied = s.occupied := by
  unfold State.startScan
  extract_lets v
  have hv : v.occupied = s.occupied := rfl
  clear_value v
  simp [hv]
@[simp] theorem State.endScan_occupied (s : State) : s.endScan.occupied = s.occupied := by
  simp [State.endScan]
@[simp] theorem State.scanTrigger_occupied (s : State) : s.scanTrigger.occupied = s.occupied := by
  simp [State.scanTrigger]
@[simp] theorem State.nextTake_occupied (left : List Header) (fence : List Nat) (s : State) : (s.nextTake left fence).occupied = s.occupied := by
  simp only [State.nextTake]; split <;> simp
@[simp] theorem State.headerRead_occupied (slot : Nat) (b : List Byte) (s : State) : (s.headerRead slot b).occupied = s.occupied := by
  simp only [State.headerRead]; split <;> simp
@[simp] theorem State.bodyRead_occupied (slot : Nat) (b : List Byte) (s : State) : (s.bodyRead slot b).occupied = s.occupied := by
  simp only [State.bodyRead]; split <;> simp
@[simp] theorem State.takenWritten_occupied (s : State) : s.takenWritten.occupied = s.occupied := by
  simp only [State.takenWritten]; split <;> simp

/-! ## The part state and the settings -/

@[simp] theorem State.enterStopping_occupied (s : State) : s.enterStopping.occupied = s.occupied := by
  simp [State.enterStopping]
@[simp] theorem State.halt_occupied (why : HaltCause) (s : State) : (s.halt why).occupied = s.occupied := by
  simp [State.halt]
@[simp] theorem State.stoppingTest_occupied (s : State) : s.stoppingTest.occupied = s.occupied := by
  simp [State.stoppingTest]
@[simp] theorem State.readSetupBlock_occupied (why : SetupCause) (s : State) : (s.readSetupBlock why).occupied = s.occupied := rfl
@[simp] theorem State.controlRun_occupied (s : State) : s.controlRun.occupied = s.occupied := by
  simp only [State.controlRun]; split <;> simp
@[simp] theorem State.controlStop_occupied (s : State) : s.controlStop.occupied = s.occupied := by
  simp only [State.controlStop]; split <;> simp
@[simp] theorem State.setupRead_occupied (b : List Byte) (s : State) : (s.setupRead b).occupied = s.occupied := by
  simp only [State.setupRead]; split <;> simp
@[simp] theorem State.nextRefresh_occupied (s : State) : s.nextRefresh.occupied = s.occupied := by
  simp only [State.nextRefresh]; split <;> simp
@[simp] theorem State.refreshSettings_occupied (t : Ticket) (s : State) : (s.refreshSettings t).occupied = s.occupied := by
  simp [State.refreshSettings]

/-! ## The ticket writer and the log writer -/

@[simp] theorem State.resultWritten_occupied (slot : Nat) (s : State) : (s.resultWritten slot).occupied = s.occupied := rfl
@[simp] theorem State.doneWritten_occupied (slot : Nat) (s : State) : (s.doneWritten slot).occupied = s.occupied := rfl
/-- TICKET_DONE fills the place that was set aside for it (R175). -/
@[simp] theorem State.ownerWritten_occupied (s : State) : s.ownerWritten.occupied = s.occupied := by
  simp only [State.ownerWritten]
  split
  · rename_i hp
    simp [State.occupied, hp]; omega
  · rfl
@[simp] theorem State.startRecord_occupied (s : State) : s.startRecord.occupied = s.occupied := rfl
@[simp] theorem State.writeRecord_occupied (s : State) : s.writeRecord.occupied = s.occupied := by
  simp only [State.writeRecord]; split <;> simp
@[simp] theorem State.markReread_occupied (free : Bool) (s : State) : (s.markReread free).occupied = s.occupied := by
  simp [State.markReread]
@[simp] theorem State.markRead_occupied (b : List Byte) (s : State) : (s.markRead b).occupied = s.occupied := by
  simp only [State.markRead]; split <;> simp
@[simp] theorem State.recordWritten_occupied (s : State) : s.recordWritten.occupied = s.occupied := rfl
@[simp] theorem State.spoilNotice_occupied (r : OutcomeRecord) (s : State) : (s.spoilNotice r).occupied = s.occupied := by
  simp only [State.spoilNotice]; (repeat' split) <;> simp
/-- A written record gives its place back (R179). -/
theorem State.freshMarkWritten_occupied (s : State) : s.freshMarkWritten.occupied ≤ s.occupied := by
  simp only [State.freshMarkWritten]
  split
  · simp
  · rename_i h
    rw [State.spoilNotice_occupied, State.notifyTest_occupied]
    simp [State.occupied, h]

/-! ## LOAD_PRICES and LOAD_TONE -/

@[simp] theorem State.startPrices_occupied (s : State) : s.startPrices.occupied = s.occupied := by
  simp only [State.startPrices]; split <;> simp
@[simp] theorem State.loadPrices_occupied (t : Ticket) (address : Nat) (s : State) : (s.loadPrices t address).occupied = s.occupied := by
  simp only [State.loadPrices]
  split_ifs
  · rfl
  · exact State.startPrices_occupied _
  · rfl
@[simp] theorem State.pricesLeave_occupied (s : State) : s.pricesLeave.occupied = s.occupied := State.startPrices_occupied _
@[simp] theorem State.pricesRead_occupied (image : List Byte) (s : State) : (s.pricesRead image).occupied = s.occupied := by
  simp only [State.pricesRead]
  split
  · rfl
  · split <;> exact State.pricesLeave_occupied _
@[simp] theorem State.pricesFailed_occupied (s : State) : s.pricesFailed.occupied = s.occupied := by
  simp only [State.pricesFailed]; split <;> simp
@[simp] theorem State.loadTone_occupied (t : Ticket) (profile colour address : Nat) (s : State) :
    (s.loadTone t profile colour address).occupied = s.occupied := by
  simp only [State.loadTone]; split_ifs <;> rfl
@[simp] theorem State.toneLeaves_occupied (profile : Nat) (s : State) : (s.toneLeaves profile).occupied = s.occupied := by
  simp only [State.toneLeaves]; split <;> rfl
@[simp] theorem State.toneRead_occupied (b : List Byte) (s : State) : (s.toneRead b).occupied = s.occupied := by
  simp only [State.toneRead]
  split
  · rfl
  · exact State.toneLeaves_occupied _ _
@[simp] theorem State.toneFailed_occupied (s : State) : s.toneFailed.occupied = s.occupied := by
  simp only [State.toneFailed]; split <;> simp

/-! ## The line renderers' bursts -/

@[simp] theorem State.fetchStep_occupied (e : Fin 2) (s : State) : (s.fetchStep e).occupied = s.occupied := by
  simp only [State.fetchStep]; split <;> simp
@[simp] theorem State.proofFails_occupied (e : Fin 2) (s : State) : (s.proofFails e).occupied = s.occupied := by
  simp only [State.proofFails]; split <;> simp
@[simp] theorem State.proofWritten_occupied (e : Fin 2) (ok : Bool) (s : State) : (s.proofWritten e ok).occupied = s.occupied := by
  simp only [State.proofWritten]; split <;> simp
@[simp] theorem State.lineFetched_occupied (e : Fin 2) (ok : Bool) (bytes : List Byte) (s : State) :
    (s.lineFetched e ok bytes).occupied = s.occupied := by
  simp only [State.lineFetched]; split <;> simp

/-! ## The tender link's receiver -/

@[simp] theorem State.discardFrame_occupied (s : State) : s.discardFrame.occupied = s.occupied := by
  simp [State.discardFrame]
@[simp] theorem State.frameAssembled_occupied (f : List Byte) (s : State) : (s.frameAssembled f).occupied = s.occupied := by
  simp [State.frameAssembled]
@[simp] theorem State.receiveByte_occupied (b : Byte) (s : State) : (s.receiveByte b).occupied = s.occupied := by
  simp only [State.receiveByte]; split <;> simp
@[simp] theorem State.receiveGap_occupied (s : State) : s.receiveGap.occupied = s.occupied := by
  simp [State.receiveGap]
@[simp] theorem State.lineBytes_occupied (bytes : List Byte) (s : State) : (s.lineBytes bytes).occupied = s.occupied := by
  simp only [State.lineBytes]
  split
  · rw [State.foldl_occupied _ (fun s b => s.receiveByte_occupied b), State.receiveGap_occupied]
  · rfl

/-! ## The memory mover -/

@[simp] theorem State.grantNext_occupied (s : State) : s.grantNext.occupied = s.occupied := by
  simp only [State.grantNext]; (repeat' split) <;> simp
/-- A memory error gives back the ticket writer's place (R175, R193). -/
theorem State.exchangeError_occupied (tag : ReqTag) (s : State) : (s.exchangeError tag).occupied ≤ s.occupied := by
  cases tag with
  | result | doneState | owner =>
    simp only [State.exchangeError, State.halt_occupied]
    simp [State.occupied]
  | _ => simp [State.exchangeError]
theorem State.exchangeDone_occupied (tag : ReqTag) (b : List Byte) (s : State) : (s.exchangeDone tag b).occupied ≤ s.occupied := by
  cases tag with
  | freshMark => exact s.freshMarkWritten_occupied
  | _ => simp [State.exchangeDone]
theorem State.clientEnd_occupied (tag : ReqTag) (ok : Bool) (data : List Byte) (s : State) : (s.clientEnd tag ok data).occupied ≤ s.occupied := by
  simp only [State.clientEnd]
  split
  case h_8 =>
    split_ifs
    · exact Nat.le_refl _
    · exact State.exchangeDone_occupied _ _ s
    · exact State.exchangeError_occupied _ s
  all_goals simp
/-- The end of a burst takes no place (R178, R193). -/
theorem State.finishBurst_occupied (r : BurstResult) (s : State) : (s.finishBurst r).occupied ≤ s.occupied := by
  simp only [State.finishBurst]
  split
  · exact Nat.le_refl _
  · split
    · exact Nat.le_refl _
    · split
      · exact State.clientEnd_occupied _ _ _ _
      · split
        · exact Nat.le_refl _
        · exact State.clientEnd_occupied _ _ _ _
theorem State.burstTimedOut_occupied (s : State) : s.burstTimedOut.occupied ≤ s.occupied := by
  simp only [State.burstTimedOut]
  split
  · split_ifs
    · exact s.finishBurst_occupied _
    · exact Nat.le_refl _
  · exact Nat.le_refl _

/-! ## Requests in course -/

section
variable {s : State}

@[simp] theorem State.enqueueWait_occupied (j : Job) (s : State) : (s.enqueueWait j).occupied = s.occupied := by
  unfold State.enqueueWait; split <;> rfl

/-- A request in course is applied where its places are free, and waits where they are not (R178). -/
theorem State.process_withinRoom (j : Job) (h : s.withinRoom) : (s.process j).withinRoom := by
  simp only [State.process]
  split_ifs with hbehind hroom
  · exact (s.enqueueWait_occupied j).trans_le h
  · simp only [State.hasRoom, State.placesTaken, Bool.or_eq_true, Bool.and_eq_true, beq_iff_eq, decide_eq_true_eq] at hroom
    rcases hroom with hnone | ⟨-, hfree⟩
    · exact Nat.le_trans (Nat.sub_eq_zero_iff_le.mp hnone) h
    · exact hfree
  · exact (s.enqueueWait_occupied j).trans_le h

theorem State.housekeep_occupied {s t : State} (h : s.housekeep = some t) : t.occupied = s.occupied := by
  simp only [State.housekeep] at h
  split_ifs at h <;> cases h <;> simp

/-- What follows a change keeps the queue within its places. -/
theorem State.drain_withinRoom (k : Nat) : ∀ s : State, s.withinRoom → (State.drain k s).withinRoom := by
  induction k with
  | zero => exact fun _ h => h
  | succ k ih =>
    intro s h
    simp only [State.drain]
    split
    · rename_i j rest _
      exact ih _ (State.process_withinRoom (s := { s with agenda := rest }) j h)
    · split
      · rename_i t ht
        exact ih t ((State.housekeep_occupied ht).trans_le h)
      · exact h

theorem State.settle_withinRoom (h : s.withinRoom) : s.settle.withinRoom := State.drain_withinRoom _ s h

/-- A step that takes no place, and what follows. -/
theorem State.settle_withinRoom_of_le {v : State} (hv : v.occupied ≤ s.occupied) (h : s.withinRoom) : v.settle.withinRoom :=
  State.settle_withinRoom (Nat.le_trans hv h)

theorem State.perform_withinRoom (a : Act) (h : s.withinRoom) : (s.perform a).withinRoom := State.settle_withinRoom (s := s.push a) h

/-- The producer that is served finds its places, or needs none (R178). -/
theorem State.freeFollower_occupied {ahead l : List Job} {x : Job × List Job} (h : s.freeFollower ahead l = some x) :
    (State.attempt x.1 { s with waiting := x.2 }).occupied ≤ s.occupied := by
  induction l generalizing ahead with
  | nil => cases h
  | cons k l ih =>
    rw [State.freeFollower] at h
    split_ifs at h with hback
    · exact ih h
    · cases h
      simp only [Bool.or_eq_true, not_or, bne_iff_ne, ne_eq, not_not] at hback
      exact Nat.sub_eq_zero_iff_le.mp hback.2

theorem State.serveWaiting_withinRoom (h : s.withinRoom) : s.serveWaiting.withinRoom := by
  simp only [State.serveWaiting, State.served]
  split
  · exact h
  · rename_i j rest _
    split_ifs with hroom
    · simp only [State.placesTaken, Bool.or_eq_true, beq_iff_eq, decide_eq_true_eq] at hroom
      rcases hroom with hnone | hfree
      · exact Nat.le_trans (Nat.sub_eq_zero_iff_le.mp hnone) h
      · exact hfree
    · cases hf : s.freeFollower [j] rest with
      | none => exact h
      | some x => exact Nat.le_trans (State.freeFollower_occupied hf) h

/-! ## Commands and steps -/

theorem State.taking_withinRoom (t : Ticket) {f : State → State} (hf : ∀ v : State, v.withinRoom → (f v).withinRoom) (h : s.withinRoom) :
    (s.taking t f).withinRoom := by
  unfold State.taking
  split
  · exact h
  · exact hf _ ((s.accept_occupied t).trans_le h)

/-- A ticket's step that takes no place, made at once. -/
theorem State.taking_settle_withinRoom (t : Ticket) {f : State → State} (hf : ∀ v, (f v).occupied = v.occupied) (h : s.withinRoom) :
    (s.taking t fun v => (f v).settle).withinRoom :=
  State.taking_withinRoom t (fun v hv => State.settle_withinRoom_of_le (hf v).le hv) h

/-- PAY_CASH_BIND is refused at its take, checked as a request in course, or waits (R161). -/
theorem State.payCashBind_withinRoom (t : Ticket) (h : s.withinRoom) : (s.payCashBind t).withinRoom := by
  unfold State.payCashBind
  split_ifs with hlisted hempty
  · exact State.settle_withinRoom_of_le (State.checkBind_occupied hlisted).le h
  · exact State.perform_withinRoom _ h
  · exact State.settle_withinRoom_of_le (s.modCash_occupied _).le h

/-- Every command keeps the queue within its places. -/
theorem exec_withinRoom (c : Instr) (h : s.withinRoom) : ∃ v, exec c s = .next v ∧ v.withinRoom := by
  cases c with
  | softReset | powerOnReset | linkReset => exact ⟨_, rfl, Nat.zero_le _⟩
  | attnCauseWrite | attnEnableWrite => exact ⟨_, rfl, (State.modExch_occupied rfl rfl).trans_le h⟩
  | registerWriteNoEffect => exact ⟨_, rfl, h⟩
  | exchBaseLowWrite =>
    refine ⟨_, rfl, ?_⟩
    unfold State.writeBaseLow
    split <;> exact h
  | exchBaseHighWrite =>
    refine ⟨_, rfl, ?_⟩
    unfold State.writeBaseHigh
    split <;> exact h
  | waitingProducerStep => exact ⟨_, rfl, State.settle_withinRoom (State.serveWaiting_withinRoom h)⟩
  | scanTimerExpiry =>
    refine ⟨_, rfl, State.settle_withinRoom_of_le (Nat.le_of_eq ?_) h⟩
    split <;> simp
  | logLingerExpiry =>
    refine ⟨_, rfl, State.settle_withinRoom_of_le (Nat.le_of_eq ?_) h⟩
    split <;> simp
  | burstEnd r => exact ⟨_, rfl, State.settle_withinRoom_of_le (s.finishBurst_occupied r) h⟩
  | burstReadTimeout =>
    exact ⟨_, rfl, State.settle_withinRoom_of_le ((State.burstTimedOut_occupied _).trans (s.advance_occupied _).le) h⟩
  | run | stop | nudge | cardInsertion | cardRemoval | tenderFrameReceived | receiveGapTimeout | cashPulseCompleted | lineFaultSet
  | lineFaultCleared | settleWindowExpiry | reportTimerExpiry | busMasterEnableChange =>
    exact ⟨_, rfl, State.settle_withinRoom_of_le (Nat.le_of_eq (by simp)) h⟩
  | loadPrices | loadTone | refreshSettings | readCounters =>
    exact ⟨_, rfl, State.taking_settle_withinRoom _ (State.forLiveOrder_occupied _ _ (by simp)) h⟩
  | cardRead t slot item es =>
    refine ⟨_, rfl, ?_⟩
    split
    · exact h
    · exact State.taking_settle_withinRoom t (State.cardRead_occupied t item es _) h
  | orderOpen t =>
    refine ⟨_, rfl, ?_⟩
    split
    · exact h
    · exact State.perform_withinRoom _ ((s.acceptOpen_occupied t).trans_le h)
  | payCashBind t => exact ⟨_, rfl, State.taking_withinRoom t (fun _ => State.payCashBind_withinRoom t) h⟩
  | identifyAnswer =>
    refine ⟨_, rfl, ?_⟩
    split
    · exact State.perform_withinRoom _ h
    · exact h
  | blockAnswer =>
    refine ⟨_, rfl, ?_⟩
    split
    · exact State.perform_withinRoom _ h
    · exact h
  | orderAddItems | orderQuote | orderCancel | orderDropItem | orderResolve | engineControlEvacuate | engineControlPause | engineControlResume
  | engineControlReset | mediaSet | engineProof | payCard | linkTestLoopOn | linkTestLoopOff | linkTestSend | linkTestInsertError
  | payCashUnbind => exact ⟨_, rfl, State.taking_withinRoom _ (fun _ => State.perform_withinRoom _) h⟩
  | settingsApplied | mechReady | mechFault | mechLineRequest | mechEjectDone | printEndStep | receiveQueueProcess | cashFaultApplied
  | cashBindApplied | cashCreditApplied | cashStrayApplied | windowEndApplied | counterReport =>
    exact ⟨_, rfl, State.perform_withinRoom _ h⟩
  | abandonExpiry | cardSettleEnd | identifyTimeout | blockTimeout | engineSilence | printSilence | linkSilence | transmitGapElapsed
  | transmitEnd | responseExpiry | queryExpiry => exact ⟨_, rfl, State.perform_withinRoom _ ((s.advance_occupied _).trans_le h)⟩

theorem State.tick_occupied (s : State) : s.tick.occupied = s.occupied :=
  (State.samplePulse_occupied _).trans (State.sampleCards_occupied _)

/-- What the part does with no command waiting keeps the queue within its places. -/
theorem idleStep_withinRoom (h : s.withinRoom) : ∃ v, idleStep s = .next v ∧ v.withinRoom := by
  unfold idleStep
  split
  · exact ⟨_, rfl, State.settle_withinRoom h⟩
  · split
    · rename_i a _
      exact ⟨_, rfl, State.perform_withinRoom (s := s.modExch fun x => { x with handed := x.handed.tail }) a h⟩
    · split
      · exact exec_withinRoom _ h
      · exact ⟨_, rfl, State.settle_withinRoom_of_le s.tick_occupied.le h⟩

/-- Every step keeps the queue within its places. -/
theorem step_withinRoom (h : s.withinRoom) : ∃ v, step s = .next v ∧ v.withinRoom := by
  unfold step
  split
  · rename_i c rest _
    exact exec_withinRoom (s := { s with pending := rest }) c h
  · exact idleStep_withinRoom h

end

/-- Settles O57: a request in course is applied where its places are free and waits where they are not, and nothing else takes a place. -/
theorem queueStaysWithinRoom : Obligations.QueueStaysWithinRoom := by
  intro s u h hu
  obtain ⟨v, hv, hroom⟩ := step_withinRoom h
  cases hv.symm.trans hu
  exact hroom

end Sys2Proof.Machine
end

section
/-! SUPPORT. The register window and the resets (R169, R170, R182, R183, R188). O3, O5, O6 and O60. -/

namespace Sys2Proof.Machine

/-! ## Attention (R182, R183) -/

/-- A cleared cause makes no inactive line active. -/
theorem attentionActive_of_clear {cause enable m : BitVec 7} (h : attentionActive (cause &&& ~~~m) enable = true) :
    attentionActive cause enable = true := by
  simp only [attentionActive, bne_iff_ne, ne_eq] at h ⊢
  intro hzero
  apply h
  calc cause &&& ~~~m &&& enable = cause &&& enable &&& ~~~m := by ac_rfl
    _ = 0#7 := by rw [hzero, BitVec.zero_and]

/-- Clearing causes never signals the vector (R182). -/
theorem Exchange.setAttention_clear (x : Exchange) (m : BitVec 7) :
    x.setAttention (x.attnCause &&& ~~~m) x.attnEnable = { x with attnCause := x.attnCause &&& ~~~m } := by
  have hsignal : (!attentionActive x.attnCause x.attnEnable && attentionActive (x.attnCause &&& ~~~m) x.attnEnable) = false := by
    cases hafter : attentionActive (x.attnCause &&& ~~~m) x.attnEnable with
    | false => exact Bool.and_false _
    | true => rw [attentionActive_of_clear hafter]; rfl
  simp only [Exchange.setAttention, hsignal, Bool.false_eq_true, if_false, Nat.add_zero]

/-- New enables signal the vector when they make an inactive line active (R183). -/
theorem Exchange.setAttention_enable (x : Exchange) (enable : BitVec 7) :
    x.setAttention x.attnCause enable =
      { x with
        attnEnable := enable
        vectorSignals := x.vectorSignals + if x.attnCause &&& x.attnEnable = 0#7 ∧ x.attnCause &&& enable ≠ 0#7 then 1 else 0 } := by
  simp only [Exchange.setAttention, attentionActive, Bool.and_eq_true, Bool.not_eq_true', bne_eq_false_iff_eq, bne_iff_ne]

/-- Settles O5: a write sets causes or enables, and the vector follows the attention line. -/
theorem attentionWrites : Obligations.AttentionWrites := by
  intro v s
  refine ⟨congrArg Host.Outcome.next ?_, congrArg Host.Outcome.next ?_⟩
  · exact congrArg (State.modExch · s) (funext fun x => Exchange.setAttention_clear x _)
  · exact congrArg (State.modExch · s) (funext fun x => Exchange.setAttention_enable x _)

/-! ## EXCH_BASE and the writes without effect (R169, R170) -/

/-- Settles O6: the part state decides whether a half of EXCH_BASE is written. -/
theorem baseAndIdleWrites : Obligations.BaseAndIdleWrites := by
  refine fun v s => ⟨fun hreset => ?_, fun hnot => ?_, fun offset => rfl⟩
  · have hpart : (s.exch.part == .reset) = true := beq_iff_eq.mpr hreset
    exact ⟨congrArg Host.Outcome.next (if_pos hpart), congrArg Host.Outcome.next (if_pos hpart)⟩
  · have hpart : ¬ (s.exch.part == .reset) = true := fun h => hnot (beq_iff_eq.mp h)
    exact ⟨congrArg Host.Outcome.next (if_neg hpart), congrArg Host.Outcome.next (if_neg hpart)⟩

/-! ## The resets (R188) -/

/-- Settles O3: a reset makes the reset state again, but for the queue of commands, the input pins and what a soft or link reset keeps. -/
theorem resets : Obligations.Resets := fun _ => ⟨rfl, rfl, rfl⟩

/-- Settles O60: after reset nothing is queued, nothing is bound, no order is live, and EXCH_BASE is 0. -/
theorem resetMeetsInvariants : Obligations.ResetMeetsInvariants := by
  have hempty : State.reset.withinRoom := Nat.zero_le _
  have hbase : State.reset.baseAligned := by decide
  exact ⟨hempty, by decide, fun _ h => absurd h List.not_mem_nil, hbase⟩

end Sys2Proof.Machine
end

section
/-! SUPPORT. Scans, the linger, REFRESH_SETTINGS and the bus master enable (R172, R176, R177, R181, R187, R192). O4, O7, O8 and O55. -/

namespace Sys2Proof.Machine

/-- What follows a step that has been worked out. -/
theorem State.Follows.of_eq {s v : State} (h : s = v) (hq : v.quiet) : State.Follows v s.settle := h ▸ State.settle_follows v hq

/-! ## The triggers of a scan (R176, R177) -/

/-- In RUNNING a trigger starts a scan when none is under way, here with no log writer that waits. -/
theorem State.scanTrigger_starts {s : State} (hrun : s.exch.part = .running) (hidle : s.exch.scan = .idle)
    (hwriter : s.exch.logWriter ≠ .waiting) :
    s.scanTrigger =
      (s.modExch fun x =>
        { x with
          scanTimer := if x.settings.scanInterval = 0 then none else some s.clock
          scan := .headers 0 [] }).request (.header 0) (s.exchBase + 1024) 32 none := by
  have hnot : (s.exch.logWriter == .waiting) = false := beq_false_of_ne hwriter
  simp [State.scanTrigger, Exchange.mayScan, hrun, hidle, State.startScan, hnot, Exchange.scansTickets, State.readHeader, State.modExch,
    State.slotAddress, State.exchBase]

/-- During a scan a trigger sets rescan owed. -/
theorem State.scanTrigger_owes {s : State} (hrun : s.exch.part = .running) (hbusy : s.exch.scan ≠ .idle) :
    s.scanTrigger = s.modExch fun x => { x with rescanOwed := true } := by
  have hnot : (s.exch.scan == .idle) = false := beq_false_of_ne hbusy
  simp [State.scanTrigger, Exchange.mayScan, hrun, hnot]

/-- NUDGE, and the scan timer at its moment, are triggers. -/
theorem exec_scanTrigger {c : Instr} {s : State} (hrun : s.exch.part = .running)
    (hc : (∃ v, c = .nudge v) ∨ (c = .scanTimerExpiry ∧ ∃ t, s.exch.scanTimer = some t ∧ s.exch.settings.scanInterval ≠ 0
      ∧ reached s.clock (t + s.exch.settings.scanInterval) = true)) :
    exec c s = .next s.scanTrigger.settle := by
  rcases hc with ⟨v, rfl⟩ | ⟨rfl, t, htimer, hinterval, hreach⟩
  · rfl
  · have hat : s.scanAt = some (t + s.exch.settings.scanInterval) := by
      simp [State.scanAt, htimer, State.settings, hinterval, Exchange.mayScan, hrun]
    show Host.Outcome.next _ = _
    rw [hat]
    exact congrArg (fun w : State => Host.Outcome.next w.scanTrigger.settle) (State.advance_reached hreach)

/-- Settles O4: both triggers are one step, which starts a scan or sets rescan owed. -/
theorem scanTriggers : Obligations.ScanTriggers := by
  intro c s hq hrun hc
  refine ⟨fun hidle hwriter => ?_, fun hbusy => ?_⟩
  · have hfollows := State.Follows.of_eq (State.scanTrigger_starts hrun hidle hwriter) hq
    exact ⟨_, exec_scanTrigger hrun hc, hfollows.still, hfollows.requests⟩
  · exact ⟨_, exec_scanTrigger hrun hc, State.settle_still (State.scanTrigger_owes hrun hbusy) hq⟩

/-! ## The linger (R181) -/

/-- Settles O7: the moment of the linger has been reached, and the record count is announced. -/
theorem logLingerAnnounces : Obligations.LogLingerAnnounces := by
  intro s hq hcount hreach
  have hat : s.lingerAt = some (s.exch.firstUnannounced + s.exch.settings.linger) := if_pos hcount
  refine ⟨_, rfl, ?_⟩
  rw [hat]
  have hstep : (s.advanceTo (s.exch.firstUnannounced + s.exch.settings.linger)).announce = s.announce :=
    congrArg State.announce (State.advance_reached hreach)
  exact State.settle_still hstep hq

/-! ## REFRESH_SETTINGS (R172) -/

/-- Settings with the scan interval, the notify threshold and the linger as they were act on nothing at once. -/
theorem State.settingsChanged_same {old : Settings} {s : State} (hscan : s.settings.scanInterval = old.scanInterval)
    (hnotify : s.settings.notify = old.notify) (hlinger : s.settings.linger = old.linger) : s.settingsChanged old = s := by
  simp [State.settingsChanged, hscan, hnotify, hlinger]

/-- With no ticket behind it, no further REFRESH_SETTINGS is served. -/
theorem State.nextRefresh_none {s : State} (h : s.exch.refreshes = []) : s.nextRefresh = s := by simp only [State.nextRefresh, h]

/-- The settings read for a REFRESH_SETTINGS applied. -/
theorem State.settingsApplied_refresh {t : Ticket} {b : Bool} {x : Settings} {l : List Nat} {s : State}
    (hready : s.exch.setupReady = some { cause := .refresh t, bothClasses := b, settings := x, clamped := l })
    (hnone : s.exch.refreshes = []) (hscan : x.scanInterval = s.exch.settings.scanInterval) (hnotify : x.notify = s.exch.settings.notify)
    (hlinger : x.linger = s.exch.settings.linger) :
    s.settingsApplied =
      ((s.modExch fun y => { y with settings := x, setupReady := none }).emit (.settings true true l) 0 0 t.seq).endTicket t 16 .ok
        (l.length + if 0 < l.length then 2147483648 else 0) := by
  simp only [State.settingsApplied, hready]
  rw [State.settingsChanged_same]
  · exact State.nextRefresh_none hnone
  · exact hscan
  · exact hnotify
  · exact hlinger

/-- Settles O8: the step makes no request of another block and takes one place. -/
theorem refreshApplied : Obligations.RefreshApplied := by
  intro t b x l s hc hready hnone hscan hnotify hlinger
  have hstep := State.settingsApplied_refresh hready hnone hscan hnotify hlinger
  exact ⟨_, rfl, State.perform_still (a := .cmd .settingsApplied) hc hstep hc.1 (by simp)⟩

/-- A ticket that finds no reading in course asks for the setup block. -/
theorem State.refreshSettings_asks {t : Ticket} {s : State} (hnone : s.exch.refreshes = []) (hreading : s.exch.setupReading = none)
    (hready : s.exch.setupReady = none) (hpart : s.exch.part ≠ .halted) :
    s.refreshSettings t =
      (s.modExch fun x => { x with setupReading := some (.refresh t) }).request .setup s.exchBase 1024 none := by
  have hnot : (s.exch.part != .halted) = true := bne_iff_ne.mpr hpart
  simp [State.refreshSettings, State.nextRefresh, State.readSetupBlock, State.modExch, State.exchBase, hnone, hreading, hready, hnot]

/-- In HALTED a ticket handed on before makes no access to the region (R187). -/
theorem State.refreshSettings_halted {t : Ticket} {s : State} (hnone : s.exch.refreshes = []) (hpart : s.exch.part = .halted) :
    s.refreshSettings t = s.modExch fun x => { x with refreshes := [t] } := by
  simp [State.refreshSettings, State.nextRefresh, State.modExch, hnone, hpart]

/-! ## The bus master enable (R192) -/

/-- With nothing in course and nothing that follows by itself, a state settles as it stands. -/
theorem State.settle_rest {s : State} (ha : s.agenda = []) (h : s.housekeep = none) : s.settle = s := by
  rw [State.settle, Config.fuel_succ]
  simp only [State.drain, ha, h]

/-- In RESET, with no request at the mover, nothing follows by itself. -/
theorem State.housekeep_reset {s : State} (hpart : s.exch.part = .reset) (hrequests : s.mover.requests = []) : s.housekeep = none := by
  simp [State.housekeep, Exchange.logs, PartState.servesTickets, hpart, hrequests]

/-- Settles O55: the reading is asked for, held back by a halt, or, for the bus master enable, what follows has nothing to do. -/
theorem refreshAndBusMaster : Obligations.RefreshAndBusMaster := by
  refine ⟨fun t s hq ht hnone hreading hready => ?_, fun s ha => ?_, fun s ha hpart hrequests => ?_⟩
  · have hexch : (s.accept t).exch = _ := (State.accept_exch t s).trans (State.acceptOpen_exch t s)
    have hnone' : (s.accept t).exch.refreshes = [] := by rw [hexch]; exact hnone
    have hpart' : (s.accept t).exch.part = s.exch.part := by rw [hexch]
    refine ⟨fun hpart => ?_, fun hpart => ?_⟩
    · have hbase : (s.accept t).exchBase = s.exchBase := by rw [State.exchBase, hexch]; rfl
      have hstep := State.refreshSettings_asks (t := t) hnone' (by rw [hexch]; exact hreading) (by rw [hexch]; exact hready)
        (hpart'.trans_ne hpart)
      have hfollows := State.taking_settle_follows (kind := kindRefreshSettings) ht hstep (State.accept_quiet t hq)
      refine ⟨_, rfl, hfollows.still, ?_⟩
      rw [← State.accept_mover t s, ← hbase]
      exact hfollows.requests
    · have hstep := State.refreshSettings_halted (t := t) hnone' (hpart'.trans hpart)
      exact ⟨_, rfl, (State.taking_settle_follows (kind := kindRefreshSettings) ht hstep (State.accept_quiet t hq)).still⟩
  · exact ⟨_, rfl, (State.settle_follows (s.modExch fun x => { x with busMaster := true }) ⟨ha, rfl⟩).still⟩
  · exact congrArg Host.Outcome.next
      (State.settle_rest ha (State.housekeep_reset (s := s.modExch fun x => { x with busMaster := false }) hpart hrequests))

end Sys2Proof.Machine
end

section
/-! SUPPORT. A halt and a stop: a memory error of an exchange client (R187, R192, R193), and RUN and STOP with the test of R186. O2 and O11. -/

namespace Sys2Proof.Machine

/-! ## The reads that a stop or a halt ends (R68) -/

/-- A slot with no read has none to end. -/
theorem State.stopReadsAt_none {n : Fin 4} {s : State} (h : (s.slots.get n).queue = []) : s.stopReadsAt n = s := by
  have hflight : (s.slots.get n).inFlight = none := by simp [Slot.inFlight, h]
  have hqueued : (s.slots.get n).queued = [] := by simp [Slot.queued, h]
  have hsame : (s.modSlot n fun x => { x with queue := [] }) = s.modSlot n id :=
    State.modSlot_congr (by rw [← h]; rfl)
  simp only [State.stopReadsAt, hflight, hqueued, State.endReads, State.reportReadEnds, hsame]
  simp [State.modSlot]

/-- With no read at any slot a stop or a halt ends none. -/
theorem State.stopReads_none {s : State} (h : ∀ n, (s.slots.get n).queue = []) : s.stopReads = s := by
  have hat : ∀ n, s.stopReadsAt n = s := fun n => State.stopReadsAt_none (h n)
  simp only [State.stopReads, slotNumbers, List.foldl_cons, List.foldl_nil, hat]

/-! ## A memory error of an exchange client (R187, R193) -/

/-- The part halted, but for the exchange controller's own course: what a halt leaves with no read at any slot (R187). -/
def State.haltedBy (why : HaltCause) (s : State) : State :=
  (s.modExch fun x =>
    { x with
      part := .halted, haltCause := why, scan := .idle, rescanOwed := false, scanTimer := none, setupReading := none
      setupReady := x.setupReady.filter fun y => y.cause != .run }).attend .halt

/-- A halt, whatever the ticket writer's places. -/
theorem State.halt_eq {why : HaltCause} {s : State} (h : ∀ n, (s.slots.get n).queue = []) (k : Nat) :
    (s.modExch fun x => { x with reservedPlaces := k }).halt why =
      (s.haltedBy why).modExch fun x => { x with logWriter := .idle, writer := .idle, reservedPlaces := k } := by
  unfold State.halt
  extract_lets v
  rw [State.stopReads_none (s := v.attend .halt) h]
  simp only [v]
  cases hready : s.exch.setupReady with
  | none => simp [State.haltedBy, State.modExch, State.attend, hready, Exchange.latch, Exchange.setAttention]
  | some r =>
    by_cases hrun : r.cause = .run <;>
      simp [State.haltedBy, State.modExch, State.attend, hready, hrun, Exchange.latch, Exchange.setAttention, Option.filter_some]

/-- A halt leaves a quiet part quiet. -/
theorem State.haltedBy_quiet (why : HaltCause) {s : State} (h : s.quiet) : (s.haltedBy why).quiet := h

/-- A part whose state is that of a halted part, but for the exchange controller's own course, is in HALTED. -/
theorem State.halted_of_still {s u : State} {why : HaltCause} (h : u.still = (s.haltedBy why).still) : u.exch.part = .halted := by
  have hpart : u.exch.part.resting = .halted := congrArg (fun w : State => w.exch.part) h
  cases hu : u.exch.part with
  | halted => rfl
  | _ => rw [hu] at hpart; cases hpart

/-- Outside HALTED the exchange controller is told of an error of its three clients (R189, R193). -/
theorem State.clientEnd_exchangeError {tag : ReqTag} {s : State} (hplace : tag.place ≤ 3) (hp : s.exch.part ≠ .halted) :
    s.clientEnd tag false [] = s.exchangeError tag := by
  have hnot : (s.exch.part == .halted) = false := beq_false_of_ne hp
  cases tag with
  | push | pop | block | source | proofLine | prices | tone => simp only [ReqTag.place] at hplace; omega
  | _ => simp only [State.clientEnd, hnot]; rfl

/-- Each exchange client's error halts the part with its client's cause (R187). -/
theorem State.exchangeError_halts {tag : ReqTag} {why : HaltCause} (s : State)
    (h : (tag = .setup ∧ why = .setup)
      ∨ ((∃ n, tag = .header n ∨ tag = .body n ∨ tag = .taken n ∨ tag = .result n ∨ tag = .doneState n ∨ tag = .owner n)
        ∧ why = .ticket)
      ∨ ((tag = .mark ∨ tag = .record ∨ tag = .freshMark) ∧ why = .log)) :
    tag.place ≤ 3 ∧ ∃ k, s.exchangeError tag = (s.modExch fun x => { x with reservedPlaces := k }).halt why := by
  rcases h with ⟨rfl, rfl⟩ | ⟨⟨n, rfl | rfl | rfl | rfl | rfl | rfl⟩, rfl⟩ | ⟨rfl | rfl | rfl, rfl⟩ <;>
    exact ⟨Nat.le_of_ble_eq_true rfl, _, rfl⟩

/-- A burst that is reported failed, and a read burst with no data for 50 ms, end in one way (R192). -/
theorem exec_burstFails {c : Instr} {g : Grant} {s : State} (hg : s.mover.grant = some g)
    (hc : c = .burstEnd .failed ∨ (c = .burstReadTimeout ∧ g.write = none ∧ reached s.clock (g.issued + 50) = true)) :
    exec c s = .next (s.finishBurst .failed).settle := by
  rcases hc with rfl | ⟨rfl, hread, hreach⟩
  · rfl
  · have hat : s.mover.timeoutAt = some (g.issued + 50) := by simp [Mover.timeoutAt, hg, hread, Config.burstWait]
    have hadvance : s.advance s.mover.timeoutAt = s := by rw [hat, State.advance_reached hreach]
    have htimed : s.burstTimedOut = s.finishBurst .failed := by simp [State.burstTimedOut, hat, hreach]
    show Host.Outcome.next (s.advance s.mover.timeoutAt).burstTimedOut.settle = _
    rw [hadvance, htimed]

/-- Settles O11: the request leaves its client's list, and the client's error halts the part. -/
theorem burstErrorHalts : Obligations.BurstErrorHalts := by
  intro c g r why s hq hpart hgrant hhead hreads htag hc
  obtain ⟨hplace, k, herror⟩ := State.exchangeError_halts (s.laneFreed g.place) htag
  have hend : s.finishBurst .failed = (s.laneFreed g.place).exchangeError r.tag := by
    rw [← State.clientEnd_exchangeError (s := s.laneFreed g.place) hplace hpart]
    simp only [State.finishBurst, hgrant, hhead]
    rfl
  have hhalt := hend.trans (herror.trans (State.halt_eq (s := s.laneFreed g.place) hreads k))
  have hstill : (s.finishBurst .failed).settle.still = (s.haltedBy why).still :=
    (State.settle_still hhalt (State.haltedBy_quiet why hq)).trans rfl
  exact ⟨_, exec_burstFails hgrant hc, State.halted_of_still hstill, congrArg (fun w : State => w.exch.haltCause) hstill, hstill⟩

/-! ## The test of R186 -/

/-- Which blocks are quiet does not depend on the exchange controller's own course, but for the requests that wait. -/
theorem State.allQuiet_of_still {s t : State} (h : t.still = s.still) (hw : t.waiting = s.waiting) : t.allQuiet = s.allQuiet := by
  have hof : ∀ w : State, w.allQuiet = State.allQuiet { w.still with waiting := w.waiting } := fun _ => rfl
  rw [hof t, hof s, h, hw]

/-- The ticket writer's request for its place, when it waits, keeps no block busy. -/
theorem State.allQuiet_ticketJob (s : State) : State.allQuiet { s with waiting := s.waiting ++ [ticketJob] } = s.allQuiet := by
  simp [State.allQuiet, Act.handsRequest, Act.startsPrint]

/-- The ticket writer's request is applied, or waits behind the producers. -/
theorem State.process_ticketJob_cases {s : State} (ha : s.agenda = []) :
    s.process ticketJob = s.ticketPlace ∨ s.process ticketJob = { s with waiting := s.waiting ++ [ticketJob] } := by
  have hwaits : s.enqueueWait ticketJob = { s with waiting := s.waiting ++ [ticketJob] } := State.enqueueWait_unowned ticketJob s rfl rfl
  have happlied : s.attempt ticketJob = s.ticketPlace := by
    have hbare : applyAct ticketJob.act { s with agenda := [] } = s.ticketPlace := congrArg State.ticketPlace (State.bare ha)
    have hnone : s.ticketPlace.agenda = [] := s.ticketPlace_follows.2.trans ha
    rw [State.attempt_plain _ _ (by rw [hbare]; exact hnone), hbare, ha]
    exact State.bare hnone
  simp only [State.process, hwaits, happlied]
  split_ifs
  · exact .inr rfl
  · exact .inl rfl
  · exact .inr rfl

/-- What one part of the exchange controller's own course leaves of the test: the part state, the blocks that are quiet, and the log writer's work. -/
structure State.Rests (s t : State) : Prop where
  part : t.exch.part = s.exch.part
  quiet : t.allQuiet = s.allQuiet
  logWriter : t.exch.logWriter = s.exch.logWriter
  outcomes : t.exch.outcomes = s.exch.outcomes

theorem State.ticketPlace_rests (s : State) : State.Rests s s.ticketPlace := by
  have hw : s.ticketPlace.waiting = s.waiting := by
    simp only [State.ticketPlace]
    (repeat' split) <;> rfl
  refine ⟨?_, State.allQuiet_of_still s.ticketPlace_follows.1.still hw, ?_, ?_⟩ <;>
    · simp only [State.ticketPlace]
      (repeat' split) <;> rfl

theorem State.process_ticketJob_rests {s : State} (ha : s.agenda = []) : State.Rests s (s.process ticketJob) := by
  rcases State.process_ticketJob_cases ha with h | h
  · rw [h]; exact s.ticketPlace_rests
  · rw [h]; exact ⟨rfl, s.allQuiet_ticketJob, rfl, rfl⟩

theorem State.grantNext_rests {s : State} (hb : s.exch.busMaster = true) : State.Rests s s.grantNext := by
  have hexch : s.grantNext.exch = s.exch ∧ s.grantNext.waiting = s.waiting := by
    simp only [State.grantNext]
    (repeat' split) <;> exact ⟨rfl, rfl⟩
  obtain ⟨hexch, hw⟩ := hexch
  refine ⟨by rw [hexch], State.allQuiet_of_still (State.grantNext_follows s hb).1.still hw, by rw [hexch], by rw [hexch]⟩

/-! ## What follows a STOP (R186) -/

section
variable {s : State}

/-- Where a part in STOPPING is not quiet, or the part is in another state, one part of the course leaves both. -/
theorem State.housekeep_rests {t : State} (hb : s.exch.busMaster = true)
    (hn : ¬ (s.exch.part = .stopping ∧ s.allQuiet = true)) (h : s.housekeep = some t) : t.exch.part = s.exch.part ∧ t.allQuiet = s.allQuiet := by
  simp only [State.housekeep] at h
  split_ifs at h with hlog hticket hstop hgrant
  · cases h; exact ⟨rfl, rfl⟩
  · cases h; exact ⟨rfl, rfl⟩
  · exact absurd (by simpa using hstop) hn
  · cases h
    exact ⟨(State.grantNext_rests hb).part, (State.grantNext_rests hb).quiet⟩

/-- The part state stays, but in STOPPING with every block quiet. -/
theorem State.drain_part (k : Nat) :
    ∀ s : State, s.exch.busMaster = true → (s.agenda = [] ∨ s.agenda = [ticketJob]) → ¬ (s.exch.part = .stopping ∧ s.allQuiet = true) →
      (State.drain k s).exch.part = s.exch.part := by
  induction k with
  | zero => exact fun _ _ _ _ => rfl
  | succ k ih =>
    intro s hb ha hn
    rcases ha with ha | ha
    · simp only [State.drain, ha]
      split
      · rename_i t ht
        obtain ⟨hfollows, hagenda⟩ := s.housekeep_follows t ha hb ht
        obtain ⟨hpart, hquiet⟩ := State.housekeep_rests hb hn ht
        rw [ih t (hfollows.busMaster.trans hb) hagenda (by rw [hpart, hquiet]; exact hn), hpart]
      · rfl
    · rw [State.drain_cons k s _ _ ha]
      have hrests := State.process_ticketJob_rests (s := { s with agenda := [] }) rfl
      have hprocess := State.process_ticketPlace { s with agenda := [] } rfl
      have hn' : ¬ (s.exch.part = .stopping ∧ State.allQuiet { s with agenda := [] } = true) := hn
      rw [ih _ (hprocess.1.busMaster.trans hb) (.inl hprocess.2) (by rw [hrests.part, hrests.quiet]; exact hn'), hrests.part]

/-- The log writer has nothing to take up. -/
abbrev State.logRests (s : State) : Prop := (s.exch.logWriter == .idle && !s.exch.outcomes.isEmpty) = false

/-- The ticket writer has nothing to take up. -/
abbrev State.writerRests (s : State) : Prop := (s.exch.writer == .idle && !s.exch.completions.isEmpty) = false

/-- A ticket writer that has asked for its place holds it or waits for it (R175). -/
theorem State.process_ticketJob_writer (ha : s.agenda = []) (hw : s.exch.writer = .wantPlace) (hp : s.exch.part = .stopping)
    (hc : s.exch.completions ≠ []) : (s.process ticketJob).writerRests := by
  rcases State.process_ticketJob_cases ha with h | h
  · obtain ⟨c, rest, hcons⟩ := List.exists_cons_of_ne_nil hc
    rw [h]
    simp [State.writerRests, State.ticketPlace, hw, hcons, hp, PartState.servesTickets]
  · rw [h]
    simp [State.writerRests, hw]

/-- With both writers at rest the part stops as the next thing that follows. -/
theorem State.drain_stops_at_rest (k : Nat) (hq : s.quiet) (hp : s.exch.part = .stopping) (ht : s.allQuiet = true) (hlog : s.logRests)
    (hwriter : s.writerRests) : (State.drain (k + 1) s).exch.part = .stopped := by
  obtain ⟨ha, hb⟩ := hq
  have hnext : s.housekeep = some (s.modExch fun x => { x with part := .stopped }) := by
    simp only [State.housekeep, hlog, hwriter, Bool.false_and, State.stoppingTest, hp, ht]
    rfl
  simp only [State.drain, ha, hnext]
  exact State.drain_part k (s.modExch fun x => { x with part := .stopped }) hb (.inl ha) (fun h => by cases h.1)

/-- The ticket writer takes up an ending before the part stops. -/
theorem State.drain_stops_after_ticket (k : Nat) (hq : s.quiet) (hp : s.exch.part = .stopping) (ht : s.allQuiet = true) (hlog : s.logRests) :
    (State.drain (k + 3) s).exch.part = .stopped := by
  by_cases hwriter : s.writerRests
  · exact State.drain_stops_at_rest (k + 2) hq hp ht hlog hwriter
  · obtain ⟨ha, hb⟩ := hq
    have hbusy : (s.exch.writer == .idle && !s.exch.completions.isEmpty) = true := (Bool.not_eq_false _).mp hwriter
    have hc : s.exch.completions ≠ [] := by
      intro hnil
      simp [hnil] at hbusy
    let w := s.modExch fun x => { x with writer := .wantPlace }
    have hnext : s.housekeep = some (w.push .ticketPlace) := by
      simp only [State.housekeep, hlog, hbusy, hp]
      rfl
    have hagenda : (w.push .ticketPlace).agenda = [ticketJob] := by simp [w, ha]
    have hw : ({ w.push .ticketPlace with agenda := [] } : State) = w := State.bare (s := w) ha
    have hrests := State.process_ticketJob_rests (s := w) ha
    have hprocess := State.process_ticketPlace w ha
    simp only [State.drain, ha, hnext]
    rw [hagenda]
    simp only [hw]
    exact State.drain_stops_at_rest k ⟨hprocess.2, hprocess.1.busMaster.trans hb⟩ (hrests.part.trans hp) (hrests.quiet.trans ht)
      (by rw [State.logRests, hrests.logWriter, hrests.outcomes]; exact hlog) (State.process_ticketJob_writer ha rfl hp hc)

/-- The log writer takes up an outcome before the part stops. -/
theorem State.drain_stops (k : Nat) (hq : s.quiet) (hp : s.exch.part = .stopping) (ht : s.allQuiet = true) :
    (State.drain (k + 4) s).exch.part = .stopped := by
  by_cases hlog : s.logRests
  · exact State.drain_stops_after_ticket (k + 1) hq hp ht hlog
  · obtain ⟨ha, hb⟩ := hq
    have hnext : s.housekeep = some s.startRecord := by
      have hlogs : s.exch.logs = true := by simp [Exchange.logs, hp]
      simp only [State.housekeep, (Bool.not_eq_false _).mp hlog, hlogs]
      rfl
    simp only [State.drain, ha, hnext]
    exact State.drain_stops_after_ticket k (s := s.startRecord) ⟨ha, hb⟩ hp ht rfl

end

/-! ## RUN and STOP (R184, R185) -/

section
variable {s : State}

/-- RUN from RESET or STOPPED asks for the setup block (R184). -/
theorem State.controlRun_starts (h : s.exch.part = .reset ∨ s.exch.part = .stopped) :
    s.controlRun =
      (s.modExch fun x => { x with part := .starting, fromStopped := x.part == .stopped, setupReading := some .run }).request .setup
        s.exchBase 1024 none := by
  rcases h with h | h
  all_goals
    simp only [State.controlRun, State.readSetupBlock, State.modExch, h]
    rfl

theorem State.controlRun_elsewhere (hreset : s.exch.part ≠ .reset) (hstopped : s.exch.part ≠ .stopped) : s.controlRun = s := by
  cases hp : s.exch.part with
  | reset => exact absurd hp hreset
  | stopped => exact absurd hp hstopped
  | _ => simp only [State.controlRun, hp]

/-- STOP in RUNNING, with no read to end (R184, R68). -/
theorem State.controlStop_running (h : s.exch.part = .running) (hreads : ∀ n, (s.slots.get n).queue = []) :
    s.controlStop = s.modExch fun x => { x with part := .stopping } := by
  simp only [State.controlStop, h]
  exact State.stopReads_none (s := s.modExch fun x => { x with part := .stopping }) hreads

theorem State.controlStop_starting (h : s.exch.part = .starting) : s.controlStop = s.modExch fun x => { x with stopRemembered := true } := by
  simp only [State.controlStop, h]

theorem State.controlStop_elsewhere (hrunning : s.exch.part ≠ .running) (hstarting : s.exch.part ≠ .starting) : s.controlStop = s := by
  cases hp : s.exch.part with
  | running => exact absurd hp hrunning
  | starting => exact absurd hp hstarting
  | _ => simp only [State.controlStop, hp]

end

/-- Settles O2: RUN and STOP each make one change, and what follows a STOP ends in STOPPED when no block is busy. -/
theorem controlRunAndStop : Obligations.ControlRunAndStop := by
  refine ⟨fun s hq hpart => ?_, fun s hq hreset hstopped => ?_, ?_, fun s hq hpart => ?_, fun s hq hrunning hstarting => ?_⟩
  · have hfollows := State.Follows.of_eq (State.controlRun_starts hpart) hq
    exact ⟨_, rfl, hfollows.still, hfollows.requests⟩
  · exact ⟨_, rfl, State.settle_still (State.controlRun_elsewhere hreset hstopped) hq⟩
  · intro s hq hpart hreads v
    have hstop : s.controlStop = v := State.controlStop_running hpart hreads
    refine ⟨_, rfl, ?_, State.settle_still hstop hq⟩
    rw [hstop]
    split_ifs with hquiet
    · exact State.drain_stops 4092 hq rfl hquiet
    · exact State.drain_part Config.fuel v hq.2 (.inl hq.1) fun h => hquiet h.2
  · exact ⟨_, rfl, State.settle_still (State.controlStop_starting hpart) hq⟩
  · exact ⟨_, rfl, State.settle_still (State.controlStop_elsewhere hrunning hstarting) hq⟩

end Sys2Proof.Machine
end

section
/-! SUPPORT. The counter block's reports: what makes one due, and the due report's step (R195 to R199). O56. -/

namespace Sys2Proof.Machine

/-! ## The report timer (R198) -/

/-- Under AUTO a running report timer expires once the interval has passed since its start. -/
theorem State.reportAt_auto {t n : Nat} {s : State} (htimer : s.counters.timer = some t) (hauto : s.exch.settings.report = .auto n) :
    s.reportAt = some (t + 1000 * n) := by
  simp only [State.reportAt, State.reportInterval, State.settings, htimer, hauto]

/-- At its moment the report timer makes a report due, or leaves the due one, and does not run while it waits. -/
theorem State.reportTimerExpired_due {moment : Nat} {s : State} (hat : s.reportAt = some moment) (hreach : reached s.clock moment = true) :
    s.reportTimerExpired =
      s.modCounters fun c => { c with timer := none, due := some (c.due.getD { seq := 0, tickets := [] }) } := by
  simp only [State.reportTimerExpired, hat, hreach, if_true]

/-- There is a report interval under AUTO alone. -/
theorem State.reportInterval_isSome (s : State) : s.reportInterval.isSome = true ↔ s.exch.settings.report ≠ .manual := by
  cases h : s.exch.settings.report with
  | _ => simp [State.reportInterval, State.settings, h]

/-- From the first RUNNING on the report timer starts under AUTO alone; a state that has gone on from `s` with its settings and clock starts it
as `s` would. -/
theorem State.startReportTimer_from {s v : State} (hran : v.exch.ranOnce = s.exch.ranOnce) (hsettings : v.exch.settings = s.exch.settings)
    (hclock : v.clock = s.clock) :
    v.startReportTimer =
      v.modCounters fun c =>
        { c with timer := if s.exch.ranOnce = true ∧ s.exch.settings.report ≠ .manual then some s.clock else none } := by
  simp only [State.startReportTimer, Bool.and_eq_true, State.reportInterval_isSome, hran, hsettings, hclock]

/-! ## The due report (R197, R199) -/

/-- The report number after a number, as R197 says it: 65,535 is followed by 1. -/
theorem nextReport_eq (n : Nat) : nextReport n = if n = 65535 then 1 else n + 1 := by
  simp only [nextReport, beq_iff_eq]

/-- A change of the counter block and one of a renderer may be made in either order. -/
theorem State.modRend_modCounters (e : Fin 2) (r : Renderer → Renderer) (f : CounterBlock → CounterBlock) (s : State) :
    (s.modCounters f).modRend e r = (s.modRend e r).modCounters f := rfl

/-- A change of the counter block and the end of a ticket may be made in either order. -/
theorem State.modCounters_endTicket (t : Ticket) (kind : Nat) (code : ResultCode) (detail : Nat) (f : CounterBlock → CounterBlock) (s : State) :
    (s.endTicket t kind code detail).modCounters f = (s.modCounters f).endTicket t kind code detail := rfl

/-- Two changes of the counter block are one. -/
theorem State.modCounters_modCounters (f g : CounterBlock → CounterBlock) (s : State) :
    (s.modCounters f).modCounters g = s.modCounters fun c => g (f c) := rfl

/-- The due report of one ticket: three outcomes, the counters and margins as at the start of a period, the timer started again, and the ticket
ended with the report number. -/
theorem State.counterReport_due {t : Ticket} {seq : Nat} {s : State} (hdue : s.counters.due = some { seq := seq, tickets := [t] }) :
    let number := if s.counters.reportNumber = 65535 then 1 else s.counters.reportNumber + 1
    let v := s.counters.counters.map Counter.value
    let f := s.counters.counters.map Counter.saturated
    s.counterReport =
      ((((((s.emit (.counters number 1 (v.take 8) (f.take 8)) 0 0 seq).emit
        (.counters number 2 ((v.drop 8).take 2 ++ [s.renderers.zero.margin, s.renderers.one.margin] ++ (v.drop 10).take 4)
          ((f.drop 8).take 2 ++ [false, false] ++ (f.drop 10).take 4)) 0 0 seq).emit
        (.counters number 3 ((v.drop 14).take 2 ++ List.replicate 6 0) ((f.drop 14).take 2 ++ List.replicate 6 false)) 0 0
        seq).modRend 0 fun r => { r with margin := 16 }).modRend 1 fun r => { r with margin := 16 }).modCounters fun c =>
        { c with
          counters := List.replicate 16 {}, periodMark := false, reportNumber := number, due := none
          timer := if s.exch.ranOnce = true ∧ s.exch.settings.report ≠ .manual then some s.clock else none }).endTicket t 17 .ok
        number := by
  simp only [State.counterReport, hdue, State.reportParts, State.emitParts, State.endReports, nextReport_eq]
  rw [State.startReportTimer_from (s := s), State.modRend_modCounters, State.modRend_modCounters, State.modCounters_endTicket,
    State.modCounters_modCounters, kindReadCounters]
  all_goals simp

/-! ## The commands -/

/-- Settles O56: the ticket and the timer each change the counter block alone, and the due report asks nothing of another block. -/
theorem counterReports : Obligations.CounterReports := by
  refine ⟨fun t s hq ht => ?_, fun t n s hq htimer hauto hreach => ?_, fun t seq s hc hdue => ?_⟩
  · exact ⟨_, rfl, (State.taking_settle_follows (kind := kindReadCounters) (v := (s.accept t).readCounters t) ht rfl
      (State.accept_quiet t hq)).still⟩
  · have hat := State.reportAt_auto htimer hauto
    refine ⟨_, rfl, ?_⟩
    rw [hat, State.advance_reached hreach]
    exact State.settle_still (State.reportTimerExpired_due hat hreach) hq
  · have hstep := State.counterReport_due hdue
    have hquiet : s.counterReport.quiet := by
      rw [hstep]
      simpa [State.quiet] using hc.1
    have hroom : s.counterReport.occupied ≤ s.occupied + 3 := by
      rw [hstep]
      simp
    exact ⟨_, rfl, (State.perform_still (a := .cmd .counterReport) hc rfl hquiet hroom).trans (congrArg State.still hstep)⟩

end Sys2Proof.Machine
end

section
/-! SUPPORT. The step with a command in the queue. O1. -/

namespace Sys2Proof.Machine

/-- Settles O1: a queue that is not empty selects the first branch of the step, which is the front command's effect. -/
theorem stepRunsFrontCommand : Obligations.StepRunsFrontCommand := by
  intro c rest s hpending
  rw [step, hpending]

end Sys2Proof.Machine
end
